-- ==== Sys2Proof/Word.lean ====
section
/-! DEFINITION. The word types of the register space (20_memory.md R60, R66): a register is 32 bits, an address 12. -/

namespace Sys2Proof

/-- One register, and one pulse duration (00_scope.md R6: DUR_W = 32, FIELD_W = 32; R8: unsigned). -/
abbrev Word := BitVec 32

/-- A word address of the register space (20_memory.md R60: ADDR_W = 12). -/
abbrev Addr := BitVec 12

end Sys2Proof
end

