-- ==== Sys2Proof/Syntax.lean ====
section
/-! DEFINITION. The commands: one constructor per row of spec/opcode_table.json (30_encoding.md R82, R84, R92). -/

namespace Sys2Proof

/-- A command of the block. The only operand in a command word is the position class SUB of CLASSIFY, and the table
gives each class its own row, so no constructor has an argument (30_encoding.md R81). -/
inductive Instr where
  /-- NOP, 45_profile_and_control.md R160. -/
  | nop
  /-- CLASSIFY.HDR, SUB = 0, 40_classifier.md R101, R105. -/
  | classifyHdr
  /-- CLASSIFY.FTR, SUB = 1, 40_classifier.md R102, R105. -/
  | classifyFtr
  /-- CLASSIFY.DATA, SUB = 2, 40_classifier.md R103, R105. -/
  | classifyData
  /-- CLASSIFY.DATA1, SUB = 3, 40_classifier.md R104, R105. -/
  | classifyData1
  /-- VALIDATE, 41_validator.md R114. -/
  | validate
  /-- DEMOD, 42_demodulator.md R125. -/
  | demod
  /-- EXTRACT, 43_extractor.md R132. -/
  | extract
  /-- BUILD, 44_builder.md R148. -/
  | build
  /-- DECODE, 45_profile_and_control.md R161. -/
  | decode
  /-- LOCK, 45_profile_and_control.md R158. -/
  | lock
deriving DecidableEq, Repr

end Sys2Proof
end

