-- ==== Sys2Proof/Decode.lean ====
section
/-! DEFINITION. The decoder of command words, total and rejecting by name, and the encoder (30_encoding.md R80 to R92). -/

namespace Sys2Proof

/-- Why a word is no command (30_encoding.md R80, the three checks that look at the word alone). -/
inductive DecodeError where
  /-- OPC ≥ 0x8 (R85). -/
  | illegalOpcode
  /-- A reserved bit is set, or SUB ≠ 0 with OPC ≠ 0x1 (R86). -/
  | reservedBits
  /-- CLASSIFY with SUB ≥ 0x4 (R84). -/
  | badClass
deriving DecidableEq, Repr

/-- OPC, bits 3:0 of a command word (30_encoding.md R80). -/
def opcField (w : Word) : BitVec 4 := w.extractLsb' 0 4

/-- SUB, bits 7:4 of a command word (30_encoding.md R80). -/
def subField (w : Word) : BitVec 4 := w.extractLsb' 4 4

/-- RSV, bits 31:8 of a command word (30_encoding.md R80). -/
def rsvField (w : Word) : BitVec 24 := w.extractLsb' 8 24

/-- The command of an operation code below 8 and a position class below 4 (30_encoding.md R82, R84). -/
def instrOf (opc sub : BitVec 4) : Instr :=
  if opc = 0x0#4 then .nop
  else if opc = 0x1#4 then
    if sub = 0x0#4 then .classifyHdr
    else if sub = 0x1#4 then .classifyFtr
    else if sub = 0x2#4 then .classifyData
    else .classifyData1
  else if opc = 0x2#4 then .validate
  else if opc = 0x3#4 then .demod
  else if opc = 0x4#4 then .extract
  else if opc = 0x5#4 then .build
  else if opc = 0x6#4 then .decode
  else .lock

/-- The command a word encodes, or the first failing check of 30_encoding.md R80. The lock state is not looked at
here: each command checks it (45_profile_and_control.md R163). -/
def decode (w : Word) : Except DecodeError Instr :=
  if 0x8#4 ≤ opcField w then .error .illegalOpcode
  else if rsvField w ≠ 0#24 then .error .reservedBits
  else if opcField w ≠ 0x1#4 ∧ subField w ≠ 0x0#4 then .error .reservedBits
  else if opcField w = 0x1#4 ∧ 0x4#4 ≤ subField w then .error .badClass
  else .ok (instrOf (opcField w) (subField w))

/-- The command word of each command (30_encoding.md R92). -/
def encode : Instr → Word
  | .nop => 0x00000000#32
  | .classifyHdr => 0x00000001#32
  | .classifyFtr => 0x00000011#32
  | .classifyData => 0x00000021#32
  | .classifyData1 => 0x00000031#32
  | .validate => 0x00000002#32
  | .demod => 0x00000003#32
  | .extract => 0x00000004#32
  | .build => 0x00000005#32
  | .decode => 0x00000006#32
  | .lock => 0x00000007#32

/-- The command word whose bits the table numbers as `w`: a command is exactly one 32-bit word written to CMD
(30_encoding.md R81), moved whole, so the block has no byte order to lay it out in (20_memory.md R64). Bits from
`nbits` up are 0; a number with bits past the word is no command word. Log entry 12. -/
def tableWord (nbits w : Nat) : Option Word :=
  if w % 2 ^ nbits < 2 ^ 32 then some (BitVec.ofNat 32 (w % 2 ^ nbits)) else none

/-- The command the decoder reads from a word numbered as spec/opcode_table.json numbers it. -/
def decodeTableWord (nbits w : Nat) : Option Instr :=
  match tableWord nbits w with
  | none => none
  | some v =>
    match decode v with
    | .ok i => some i
    | .error _ => none

end Sys2Proof
end

