-- ==== Sys2Proof/Config.lean ====
section
/-! DEFINITION. What an implementation fixes: the constants whose value the spec takes, and the parameters it leaves
to the model (00_scope.md R6, 10_state.md R20, 93_implementation_defined.md I5, I10, I11, I12). -/

namespace Sys2Proof

/-- The constant the ID register reads (10_state.md R22). -/
def Config.idValue : Word := 0x4F4F4B07#32

/-- Capacity of the bit-vector register in bits, BV_MAX (00_scope.md R6). -/
def Config.bvMax : Nat := 32

/-- The longest frame BITS can hold the vector of, 2 * BV_MAX + 2 (00_scope.md R6, 45_profile_and_control.md R159). -/
def Config.frameMax : Nat := 66

/-- FIELD_OVERFLOW_POLICY: what BUILD does with a value that does not fit its width (44_builder.md R142). -/
inductive OverflowPolicy where
  | error
  | truncate
deriving DecidableEq, Repr

/-- The parameters of one block instance. They are no registers: no host access and no command reads or writes them
as such, and no step changes them (10_state.md R20). -/
structure Config where
  /-- RAW_CAP, the capacity of the pulse buffer; legal when 4 ≤ RAW_CAP ≤ 256 (`Config.wellFormed`). -/
  rawCap : Nat
  /-- FIELD_OVERFLOW_POLICY. -/
  overflowPolicy : OverflowPolicy
  /-- HOST_BASE: where the register space sits in the host's address space; invisible inside the block (I11). -/
  hostBase : Nat
  /-- HOST_BYTE_ORDER: which byte of a word a host bus carries at each of its four places; invisible inside the
  block, since every access moves a whole word (20_memory.md R64, I12). -/
  hostByteOrder : Vector (Fin 4) 4
deriving DecidableEq, Repr

/-- The spec's reference values: RAW_CAP = 64 and the policy ERROR (00_scope.md R6). HOST_BASE and HOST_BYTE_ORDER
have no reference value: DESIGN CHOICE, log entry 6. -/
def Config.reference : Config where
  rawCap := 64
  overflowPolicy := .error
  hostBase := 0
  hostByteOrder := #v[0, 1, 2, 3]

end Sys2Proof
end

