-- ==== Sys2Proof/Machine/State.lean ====
section
/-! DEFINITION. The state of one block instance as plain data (10_state.md R20), the names its registers and errors
go by, the reasons a step could stop, and the state after reset (70_reset_and_hazards.md R190). -/

namespace Sys2Proof.Machine

/-- The position class of a pulse (30_encoding.md R84, 40_classifier.md R100). -/
inductive PosClass where
  | header
  | footer
  | data
  | dataFirst
deriving DecidableEq, Repr

/-- What the classifier answers (30_encoding.md R89). -/
inductive Symbol where
  | short
  | long
  | headerOk
  | footerOk
  | invalid
deriving DecidableEq, Repr

/-- The three fields of a message, in the order 0, 1, 2 (10_state.md R43, R50). -/
inductive FieldId where
  | systemcode
  | unitcode
  | id
deriving DecidableEq, Repr

/-- The errors a command can raise (60_exceptions.md R170). -/
inductive ErrorCode where
  | frameLength
  | headerWindow
  | footerWindow
  | demodLength
  | fieldMissing
  | fieldOverflow
  | frameLenOdd
  | frameLenRange
  | fieldWidth
  | fieldBounds
  | fieldBudget
  | fieldOverlap
  | firstAdjRange
  | illegalOpcode
  | reservedBits
  | badClass
  | notLocked
  | alreadyLocked
  | noBits
deriving DecidableEq, Repr

/-- One PROF_FIELDn register: OFFSET is bits 7:0, WIDTH bits 15:8; bits 31:16 are stuck at 0 and not stored
(10_state.md R43, 20_memory.md R69). -/
structure FieldSpec where
  offset : BitVec 8
  width : BitVec 8
deriving DecidableEq, Repr

/-- The fourteen profile registers (10_state.md R33 to R43). -/
structure Profile where
  frameLen : Word
  hdrMin : Word
  hdrMax : Word
  ftrMin : Word
  ftrMax : Word
  longThr : Word
  firstAdj : Word
  short : Word
  long : Word
  ftrPulse : Word
  repeatCount : Word
  spec0 : FieldSpec
  spec1 : FieldSpec
  spec2 : FieldSpec
deriving DecidableEq, Repr

/-- The stored fields of STATUS (10_state.md R25 to R31). BUSY and the reserved bits read 0 and are not stored. -/
structure Status where
  ok : Bool
  eclass : BitVec 3
  eidx : BitVec 2
  ecode : BitVec 8
  locked : Bool
  frameOk : Bool
  bitsValid : Bool
  txReady : Bool
  berr : Bool
deriving DecidableEq, Repr

/-- The profile registers by name (20_memory.md R62). -/
inductive ProfReg where
  | frameLen
  | hdrMin
  | hdrMax
  | ftrMin
  | ftrMax
  | longThr
  | firstAdj
  | short
  | long
  | ftrPulse
  | repeatCount
  | fieldSpec (n : FieldId)
deriving DecidableEq, Repr

/-- The registers of the address map by name (20_memory.md R62). -/
inductive Reg where
  | id
  | cmd
  | status
  | clsIn
  | clsOut
  | rawLen
  | bits
  | bitsLen
  | txRepeat
  | field (n : FieldId)
  | fieldPresent
  | prof (r : ProfReg)
  | raw (k : Nat)
deriving DecidableEq, Repr

/-- What the host can do to the block: a read, a write (20_memory.md R60), or a change of the level of the reset
input RST (70_reset_and_hazards.md R190, R192). -/
inductive HostEvent where
  | read (a : Addr)
  | write (a : Addr) (v : Word)
  | rst (asserted : Bool)
deriving DecidableEq, Repr

/-- How the block answers a host access (20_memory.md R67, R68). -/
inductive BusResponse where
  /-- A read that is no bus error, with its data. -/
  | readData (v : Word)
  /-- A write that is no bus error. A command that raises is one: its error is in STATUS (60_exceptions.md R175). -/
  | writeDone
  /-- The error response of a read, with the data it returns. -/
  | readError (v : Word)
  /-- The error response of a write. -/
  | writeError
deriving DecidableEq, Repr

/-- One block instance. From `status` down the fields are the registers of 10_state.md R20, and all of them (ID is a
constant, CMD holds nothing). The first four are the model's own: log entries 1, 3, 4, 5. -/
structure State where
  /-- The parameters of the instance (10_state.md R20). -/
  cfg : Config
  /-- The host events still to come, the next one first. -/
  hostIn : List HostEvent
  /-- Whether RST is asserted. -/
  rstLine : Bool
  /-- The answer to the latest host event, where it has one. -/
  resp : Option BusResponse
  status : Status
  prof : Profile
  clsIn : Word
  clsOut : BitVec 3
  rawLen : Word
  /-- RAW[0], RAW[1], …: as many entries as RAW_CAP. -/
  raw : List Word
  bits : Word
  bitsLen : Word
  txRepeat : Word
  field0 : Word
  field1 : Word
  field2 : Word
  fieldPresent : BitVec 3
deriving DecidableEq, Repr

/-- Why a run stops. -/
inductive Fault where
  /-- A run that ended with STATUS.BERR = 1 (70_reset_and_hazards.md R201). Raised by `endOfRun` when a run is judged;
  no step raises it, since a bus error sets BERR and the machine goes on (20_memory.md R68). Unsafe where a reader
  takes the spec's "the run stops" of 93_implementation_defined.md to the letter (log entry 2), or holds a run faulted
  whose BERR a later RST cleared (log entry 15). -/
  | busError
deriving DecidableEq, Repr

/-- Why a command is not run. -/
inductive Refusal where
  /-- The command has no meaning in the model yet. Raised by an arm of `exec` that says so by name, and there is none;
  safe. -/
  | notModelled (mnemonic : String)
deriving DecidableEq, Repr

/-- STATUS after reset, 0x00000000 (70_reset_and_hazards.md R190). -/
def Status.reset : Status where
  ok := false
  eclass := 0
  eidx := 0
  ecode := 0
  locked := false
  frameOk := false
  bitsValid := false
  txReady := false
  berr := false

/-- A FieldSpec register after reset (70_reset_and_hazards.md R190). -/
def FieldSpec.reset : FieldSpec where
  offset := 0
  width := 0

/-- The profile registers after reset, 0 each (70_reset_and_hazards.md R190). -/
def Profile.reset : Profile where
  frameLen := 0
  hdrMin := 0
  hdrMax := 0
  ftrMin := 0
  ftrMax := 0
  longThr := 0
  firstAdj := 0
  short := 0
  long := 0
  ftrPulse := 0
  repeatCount := 0
  spec0 := .reset
  spec1 := .reset
  spec2 := .reset

/-- An instance with the parameters `c` right after reset: every register at the value of the table of
70_reset_and_hazards.md R190, no host event waiting, RST released. -/
def State.resetWith (c : Config) : State where
  cfg := c
  hostIn := []
  rstLine := false
  resp := none
  status := .reset
  prof := .reset
  clsIn := 0
  clsOut := 0
  rawLen := 0
  raw := List.replicate c.rawCap 0
  bits := 0
  bitsLen := 0
  txRepeat := 0
  field0 := 0
  field1 := 0
  field2 := 0
  fieldPresent := 0

/-- The machine right after reset, with the spec's reference parameters (00_scope.md R6; log entry 5). -/
def State.reset : State := State.resetWith Config.reference

end Sys2Proof.Machine
end

