-- ==== Sys2Proof/Machine/Flags.lean ====
section
/-! DEFINITION. The status word and the numbers that stand for errors and symbols (10_state.md R25,
30_encoding.md R90, 60_exceptions.md R170). -/

namespace Sys2Proof.Machine

/-- The class number of an error (60_exceptions.md R170). -/
def ErrorCode.eclass : ErrorCode → BitVec 3
  | .frameLength | .headerWindow | .footerWindow | .demodLength => 1
  | .fieldMissing | .fieldOverflow => 2
  | .frameLenOdd | .frameLenRange | .fieldWidth | .fieldBounds | .fieldBudget | .fieldOverlap | .firstAdjRange => 3
  | .illegalOpcode | .reservedBits | .badClass | .notLocked | .alreadyLocked | .noBits => 4

/-- The code number of an error (60_exceptions.md R170). -/
def ErrorCode.ecode : ErrorCode → BitVec 8
  | .frameLength => 0x01
  | .headerWindow => 0x02
  | .footerWindow => 0x03
  | .demodLength => 0x04
  | .fieldMissing => 0x10
  | .fieldOverflow => 0x11
  | .frameLenOdd => 0x20
  | .frameLenRange => 0x21
  | .fieldWidth => 0x22
  | .fieldBounds => 0x23
  | .fieldBudget => 0x24
  | .fieldOverlap => 0x25
  | .firstAdjRange => 0x26
  | .illegalOpcode => 0x30
  | .reservedBits => 0x31
  | .badClass => 0x32
  | .notLocked => 0x33
  | .alreadyLocked => 0x34
  | .noBits => 0x35

/-- The symbol code CLS_OUT holds (30_encoding.md R90; 0 is NONE, which no CLASSIFY produces). -/
def Symbol.code : Symbol → BitVec 3
  | .short => 1
  | .long => 2
  | .headerOk => 3
  | .footerOk => 4
  | .invalid => 5

/-- The word STATUS reads: BUSY, bits 30:21 and bits 7:6 are 0 (10_state.md R25, R32). -/
def Status.toWord (st : Status) : Word :=
  0#11 ++ BitVec.ofBool st.berr ++ BitVec.ofBool st.txReady ++ BitVec.ofBool st.bitsValid ++
    BitVec.ofBool st.frameOk ++ BitVec.ofBool st.locked ++ st.ecode ++ 0#2 ++ st.eidx ++ st.eclass ++
    BitVec.ofBool st.ok

end Sys2Proof.Machine
end

