-- ==== Sys2Proof/Machine/Operands.lean ====
section
/-! DEFINITION. The operands of the commands, read from the registers with a fixed role (30_encoding.md R81): profile
values as natural numbers (00_scope.md R8), pulses, fields, and the bit vector. -/

namespace Sys2Proof.Machine

/-- The number of field n, as EIDX reports it (60_exceptions.md R170). -/
def FieldId.index : FieldId → Nat
  | .systemcode => 0
  | .unitcode => 1
  | .id => 2

/-- Field n as the two bits of STATUS.EIDX (10_state.md R25). -/
def FieldId.eidx (n : FieldId) : BitVec 2 := BitVec.ofNat 2 n.index

/-- The fields in the order the commands walk them, 0, 1, 2 (44_builder.md R140, 45_profile_and_control.md R159). -/
def FieldId.all : List FieldId := [.systemcode, .unitcode, .id]

/-- PROF_FIELDn (10_state.md R43). -/
def Profile.spec (p : Profile) : FieldId → FieldSpec
  | .systemcode => p.spec0
  | .unitcode => p.spec1
  | .id => p.spec2

/-- OFFSET of field n (10_state.md R43). -/
def Profile.offset (p : Profile) (n : FieldId) : Nat := (p.spec n).offset.toNat

/-- WIDTH of field n (10_state.md R43). -/
def Profile.width (p : Profile) (n : FieldId) : Nat := (p.spec n).width.toNat

/-- BV_LEN, the number of data bits of a frame (10_state.md R34). -/
def Profile.bvLen (p : Profile) : Nat := (p.frameLen.toNat - 2) / 2

/-- The word PROF_FIELDn reads (10_state.md R43, 20_memory.md R69). -/
def FieldSpec.toWord (f : FieldSpec) : Word := 0#16 ++ f.width ++ f.offset

/-- What PROF_FIELDn keeps of a written word (20_memory.md R69). -/
def FieldSpec.ofWord (v : Word) : FieldSpec where
  offset := v.extractLsb' 0 8
  width := v.extractLsb' 8 8

/-- FIELDn (10_state.md R50). -/
def State.field (s : State) : FieldId → Word
  | .systemcode => s.field0
  | .unitcode => s.field1
  | .id => s.field2

/-- Bit n of FIELD_PRESENT (10_state.md R51). -/
def State.present (s : State) (n : FieldId) : Bool := s.fieldPresent.getLsbD n.index

/-- RAW[k] (10_state.md R47). A state that keeps `raw` at RAW_CAP entries has an entry for every k a command reads;
past the end the model reads 0, which no run sees (log entry 8). -/
def State.rawAt (s : State) (k : Nat) : Word := s.raw.getD k 0

/-- BV[0 .. BV_LEN-1] as BITS holds it: bit p of the register is BV[p] (10_state.md R48, 43_extractor.md R132). -/
def State.heldVector (s : State) : List Bool := (List.range s.prof.bvLen).map s.bits.getLsbD

/-- BV[p] (00_scope.md R9); a locked profile reads no bit past the vector (43_extractor.md R131; log entry 8). -/
def bitAt (bv : List Bool) (p : Nat) : Bool := bv.getD p false

/-- The sum of BV[p] * 2^p, the number BITS takes from a vector (42_demodulator.md R125). -/
def packBits : List Bool → Nat
  | [] => 0
  | b :: bv => b.toNat + 2 * packBits bv

end Sys2Proof.Machine
end

