-- ==== Sys2Proof/Machine/Ops.lean ====
section
/-! DEFINITION. The operations the commands and the host accesses share: ending a command (60_exceptions.md R171,
R172), the lock requirement (45_profile_and_control.md R163), and the writes of registers. The block has no trap entry
and no return from one (60_exceptions.md R175, R176): `raise` is all that an error does. -/

namespace Sys2Proof.Machine

/-- `complete()`: the result fields say success (60_exceptions.md R171). -/
def complete (s : State) : State :=
  { s with status := { s.status with ok := true, eclass := 0, eidx := 0, ecode := 0 } }

/-- `raise <Class>(code, n)`: the result fields say which error, and nothing else is written (60_exceptions.md R172). -/
def raise (e : ErrorCode) (n : BitVec 2) (s : State) : State :=
  { s with status := { s.status with ok := false, eclass := e.eclass, eidx := n, ecode := e.ecode } }

/-- `busError()`: STATUS.BERR is set and no other register changes (20_memory.md R68, 10_state.md R31). -/
def busError (s : State) : State := { s with status := { s.status with berr := true } }

/-- A command that reads the profile runs only while it is locked; else it raises NOT_LOCKED
(45_profile_and_control.md R163). -/
def whenLocked (s : State) (command : State → Host.Outcome State Fault Refusal) :
    Host.Outcome State Fault Refusal :=
  if s.status.locked then command s else .next (raise .notLocked 0 s)

/-- STATUS.LOCKED <- 1 (10_state.md R27). -/
def setLocked (s : State) : State := { s with status := { s.status with locked := true } }

/-- STATUS.FRAME_OK <- b (10_state.md R28). -/
def setFrameOk (b : Bool) (s : State) : State := { s with status := { s.status with frameOk := b } }

/-- FRAME_OK <- 0 and TX_READY <- 0, the side effect of a host write to RAW or RAW_LEN (20_memory.md R70). -/
def clearTrainFlags (s : State) : State :=
  { s with status := { s.status with frameOk := false, txReady := false } }

/-- The list with its first entries replaced by those of `new`, as far as both reach: RAW[k] <- T[k] for the entries
of a frame, the others unchanged (44_builder.md R148). -/
def overwrite : List Word → List Word → List Word
  | [], _ => []
  | old, [] => old
  | _ :: old, t :: new => t :: overwrite old new

/-- RAW[k] <- v (10_state.md R47). -/
def writeRaw (k : Nat) (v : Word) (s : State) : State := { s with raw := s.raw.set k v }

/-- FIELDn <- v (10_state.md R50). -/
def writeField (n : FieldId) (v : Word) (s : State) : State :=
  match n with
  | .systemcode => { s with field0 := v }
  | .unitcode => { s with field1 := v }
  | .id => { s with field2 := v }

/-- FIELD_PRESENT bit n <- 1 (20_memory.md R70). -/
def markPresent (n : FieldId) (s : State) : State :=
  { s with fieldPresent := s.fieldPresent ||| BitVec.ofNat 3 (2 ^ n.index) }

/-- CLS_OUT <- the code of a symbol (40_classifier.md R105). -/
def storeSymbol (y : Symbol) (s : State) : State := { s with clsOut := y.code }

/-- BITS, BITS_LEN and BITS_VALID from a demodulated vector (42_demodulator.md R125). -/
def storeVector (bv : List Bool) (s : State) : State :=
  { s with
    bits := BitVec.ofNat 32 (packBits bv)
    bitsLen := BitVec.ofNat 32 bv.length
    status := { s.status with bitsValid := true } }

/-- FIELD0..2 and FIELD_PRESENT from a decoded message (43_extractor.md R132). -/
def storeMessage (value : FieldId → Nat) (s : State) : State :=
  { s with
    field0 := BitVec.ofNat 32 (value .systemcode)
    field1 := BitVec.ofNat 32 (value .unitcode)
    field2 := BitVec.ofNat 32 (value .id)
    fieldPresent := 0b111 }

/-- RAW[0 .. FRAME_LEN-1], RAW_LEN, TX_REPEAT, TX_READY and FRAME_OK from a built train (44_builder.md R148). -/
def storeTrain (train : List Word) (s : State) : State :=
  { s with
    raw := overwrite s.raw train
    rawLen := s.prof.frameLen
    txRepeat := s.prof.repeatCount
    status := { s.status with txReady := true, frameOk := false } }

end Sys2Proof.Machine
end

