-- ==== Sys2Proof/Machine/Builder.lean ====
section
/-! DEFINITION. The Bit Modulator / Frame Builder and BUILD (44_builder.md). -/

namespace Sys2Proof.Machine

/-- The first field that is absent (44_builder.md R141). -/
def missingField (s : State) : Option FieldId := FieldId.all.find? fun n => !s.present n

/-- The first field whose value does not fit its width, looked for only under the policy ERROR (44_builder.md R142). -/
def overflowingField (s : State) : Option FieldId :=
  match s.cfg.overflowPolicy with
  | .error => FieldId.all.find? fun n => decide (2 ^ s.prof.width n ≤ (s.field n).toNat)
  | .truncate => none

/-- The train before any one-bit: every symbol pair short then long, the header short, the footer entry not set yet
(44_builder.md R144, R145). -/
def zeroTrain (p : Profile) : List Word :=
  (List.range p.frameLen.toNat).map fun k => if k = 0 ∨ k % 2 = 1 then p.short else p.long

/-- Symbol pair q becomes long then short (44_builder.md R146). -/
def setOnePair (p : Profile) (q : Nat) (train : List Word) : List Word :=
  (train.set (2 * q + 1) p.long).set (2 * q + 2) p.short

/-- The pairs of the first `count` bits of the w-bit value v, from the most significant one, placed from vector
position o on; 0 bits keep the zero pattern (44_builder.md R146). -/
def setOneBits (p : Profile) (v o w : Nat) : Nat → List Word → List Word
  | 0, train => train
  | count + 1, train =>
    if v.testBit (w - 1 - count) then setOnePair p (o + count) (setOneBits p v o w count train)
    else setOneBits p v o w count train

/-- The one-bits of field n, of its value modulo 2^WIDTH (44_builder.md R140, R146). -/
def placeField (s : State) (n : FieldId) (train : List Word) : List Word :=
  setOneBits s.prof ((s.field n).toNat % 2 ^ s.prof.width n) (s.prof.offset n) (s.prof.width n) (s.prof.width n) train

/-- The train of the message in FIELD0..2: the fields in order over the zero train, then the footer
(44_builder.md R144 to R147). -/
def builtTrain (s : State) : List Word :=
  (placeField s .id (placeField s .unitcode (placeField s .systemcode (zeroTrain s.prof)))).set
    (s.prof.frameLen.toNat - 1) s.prof.ftrPulse

/-- `build()`: presence of all fields before any width (44_builder.md R140). -/
def buildTrain (s : State) : Except (ErrorCode × FieldId) (List Word) :=
  match missingField s with
  | some n => .error (.fieldMissing, n)
  | none =>
    match overflowingField s with
    | some n => .error (.fieldOverflow, n)
    | none => .ok (builtTrain s)

/-- BUILD (44_builder.md R148). -/
def execBuild (s : State) : Host.Outcome State Fault Refusal :=
  whenLocked s fun s =>
    match buildTrain s with
    | .error (e, n) => .next (raise e n.eidx s)
    | .ok train => .next (complete (storeTrain train s))

end Sys2Proof.Machine
end

