-- ==== Sys2Proof/Machine/Classifier.lean ====
section
/-! DEFINITION. The Pulse Classifier and the four CLASSIFY commands (40_classifier.md). -/

namespace Sys2Proof.Machine

/-- A data pulse against a threshold, strictly above it for LONG (40_classifier.md R103). -/
def classifyData (threshold d : Nat) : Symbol := if threshold < d then .long else .short

/-- The threshold of the first data pair, LONG_THR - FIRST_ADJ (40_classifier.md R104). LOCK keeps FIRST_ADJ at most
LONG_THR (45_profile_and_control.md R159); the difference stops at 0 in the states no run reaches (log entry 8). -/
def Profile.firstThreshold (p : Profile) : Nat := p.longThr.toNat - p.firstAdj.toNat

/-- `classify(d, c)` (40_classifier.md R100 to R104). -/
def classify (p : Profile) (d : Word) : PosClass → Symbol
  | .header => if p.hdrMin.toNat ≤ d.toNat ∧ d.toNat ≤ p.hdrMax.toNat then .headerOk else .invalid
  | .footer => if p.ftrMin.toNat ≤ d.toNat ∧ d.toNat ≤ p.ftrMax.toNat then .footerOk else .invalid
  | .data => classifyData p.longThr.toNat d.toNat
  | .dataFirst => classifyData p.firstThreshold d.toNat

/-- CLASSIFY with the position class `c` (40_classifier.md R105). -/
def runClassify (c : PosClass) (s : State) : Host.Outcome State Fault Refusal :=
  whenLocked s fun s => .next (complete (storeSymbol (classify s.prof s.clsIn c) s))

/-- CLASSIFY.HDR (40_classifier.md R101, R105). -/
def execClassifyHdr (s : State) : Host.Outcome State Fault Refusal := runClassify .header s

/-- CLASSIFY.FTR (40_classifier.md R102, R105). -/
def execClassifyFtr (s : State) : Host.Outcome State Fault Refusal := runClassify .footer s

/-- CLASSIFY.DATA (40_classifier.md R103, R105). -/
def execClassifyData (s : State) : Host.Outcome State Fault Refusal := runClassify .data s

/-- CLASSIFY.DATA1 (40_classifier.md R104, R105). -/
def execClassifyData1 (s : State) : Host.Outcome State Fault Refusal := runClassify .dataFirst s

end Sys2Proof.Machine
end

