-- ==== Sys2Proof/Machine/Demodulator.lean ====
section
/-! DEFINITION. The Bit Demodulator and DEMOD (42_demodulator.md). -/

namespace Sys2Proof.Machine

/-- The class of data pair p: only the first pair has the adjusted threshold (42_demodulator.md R122). -/
def pairClass (p : Nat) : PosClass := if p = 0 then .dataFirst else .data

/-- BV[p]: whether the key pulse RAW[2p+1] is LONG (42_demodulator.md R121). -/
def demodBit (s : State) (p : Nat) : Bool :=
  decide (classify s.prof (s.rawAt (2 * p + 1)) (pairClass p) = .long)

/-- BV[0 .. BV_LEN-1] of the train in RAW, the loop of `demodulate()` (42_demodulator.md R123). -/
def demodVector (s : State) : List Bool := (List.range s.prof.bvLen).map (demodBit s)

/-- `demodulate()`: a train of any length but FRAME_LEN is an error (42_demodulator.md R123, R124). -/
def demodulate (s : State) : Except ErrorCode (List Bool) :=
  if s.rawLen ≠ s.prof.frameLen then .error .demodLength else .ok (demodVector s)

/-- DEMOD (42_demodulator.md R125); it looks at neither header, footer nor FRAME_OK (R126). -/
def execDemod (s : State) : Host.Outcome State Fault Refusal :=
  whenLocked s fun s =>
    match demodulate s with
    | .error e => .next (raise e 0 s)
    | .ok bv => .next (complete (storeVector bv s))

end Sys2Proof.Machine
end

