-- ==== Sys2Proof/Machine/Extractor.lean ====
section
/-! DEFINITION. The Field Extractor and EXTRACT (43_extractor.md). -/

namespace Sys2Proof.Machine

/-- `toUint(o, w)`: the slice BV[o .. o+w) read with its first bit as the most significant one, in the accumulating
form of 43_extractor.md R130. -/
def toUint (bv : List Bool) (o : Nat) : Nat → Nat
  | 0 => 0
  | w + 1 => 2 * toUint bv o w + (bitAt bv (o + w)).toNat

/-- The value of field n in a vector (43_extractor.md R131). -/
def fieldValue (p : Profile) (bv : List Bool) (n : FieldId) : Nat := toUint bv (p.offset n) (p.width n)

/-- EXTRACT (43_extractor.md R132, R134). -/
def execExtract (s : State) : Host.Outcome State Fault Refusal :=
  whenLocked s fun s =>
    if s.status.bitsValid then .next (complete (storeMessage (fieldValue s.prof s.heldVector) s))
    else .next (raise .noBits 0 s)

end Sys2Proof.Machine
end

