-- ==== Sys2Proof/Machine/Validator.lean ====
section
/-! DEFINITION. The Frame Validator and VALIDATE (41_validator.md). -/

namespace Sys2Proof.Machine

/-- `validate()`: the first of the three checks that fails, none when the frame passes (41_validator.md R110 to R113). -/
def validate (s : State) : Option ErrorCode :=
  if s.rawLen ≠ s.prof.frameLen then some .frameLength
  else if classify s.prof (s.rawAt 0) .header ≠ .headerOk then some .headerWindow
  else if classify s.prof (s.rawAt (s.prof.frameLen.toNat - 1)) .footer ≠ .footerOk then some .footerWindow
  else none

/-- VALIDATE (41_validator.md R114). -/
def execValidate (s : State) : Host.Outcome State Fault Refusal :=
  whenLocked s fun s =>
    match validate s with
    | some e => .next (raise e 0 (setFrameOk false s))
    | none => .next (complete (setFrameOk true s))

end Sys2Proof.Machine
end

