-- ==== Sys2Proof/Machine/Control.lean ====
section
/-! DEFINITION. The control commands NOP and LOCK, and the composite DECODE (45_profile_and_control.md). -/

namespace Sys2Proof.Machine

/-- NOP, in any lock state (45_profile_and_control.md R160). -/
def execNop (s : State) : Host.Outcome State Fault Refusal := .next (complete s)

/-- Check 3: the first field of width 0 or above 32 (45_profile_and_control.md R159). -/
def badWidth (p : Profile) : Option FieldId := FieldId.all.find? fun n => decide (p.width n = 0 ∨ 32 < p.width n)

/-- Check 4: the first field that reaches past the vector (45_profile_and_control.md R159). -/
def badBounds (p : Profile) : Option FieldId := FieldId.all.find? fun n => decide (p.bvLen < p.offset n + p.width n)

/-- The slices of two fields share a bit (45_profile_and_control.md R159). -/
def slicesOverlap (p : Profile) (m n : FieldId) : Bool :=
  decide (p.offset m < p.offset n + p.width n ∧ p.offset n < p.offset m + p.width m)

/-- Check 6: the first field that overlaps a lower one (45_profile_and_control.md R159). -/
def overlappingField (p : Profile) : Option FieldId :=
  FieldId.all.find? fun n => FieldId.all.any fun m => decide (m.index < n.index) && slicesOverlap p m n

/-- `lockCheck()`: the first failing check of the profile with its error and EIDX, none when LOCK may succeed
(45_profile_and_control.md R159). -/
def lockCheck (c : Config) (p : Profile) : Option (ErrorCode × BitVec 2) :=
  if p.frameLen.toNat % 2 = 1 then some (.frameLenOdd, 0)
  else if p.frameLen.toNat < 4 ∨ min c.rawCap Config.frameMax < p.frameLen.toNat then some (.frameLenRange, 0)
  else
    match badWidth p with
    | some n => some (.fieldWidth, n.eidx)
    | none =>
      match badBounds p with
      | some n => some (.fieldBounds, n.eidx)
      | none =>
        if p.bvLen < p.width .systemcode + p.width .unitcode + p.width .id then some (.fieldBudget, 0)
        else
          match overlappingField p with
          | some n => some (.fieldOverlap, n.eidx)
          | none => if p.longThr.toNat < p.firstAdj.toNat then some (.firstAdjRange, 0) else none

/-- LOCK (45_profile_and_control.md R158). -/
def execLock (s : State) : Host.Outcome State Fault Refusal :=
  if s.status.locked then .next (raise .alreadyLocked 0 s)
  else
    match lockCheck s.cfg s.prof with
    | some (e, n) => .next (raise e n s)
    | none => .next (complete (setLocked s))

/-- DECODE (45_profile_and_control.md R161). Demodulation cannot fail here: validation has found the length right. -/
def execDecode (s : State) : Host.Outcome State Fault Refusal :=
  whenLocked s fun s =>
    match validate s with
    | some e => .next (raise e 0 (setFrameOk false s))
    | none =>
      .next (complete (storeMessage (fieldValue s.prof (demodVector s)) (storeVector (demodVector s) (setFrameOk true s))))

end Sys2Proof.Machine
end

