-- ==== Sys2Proof/Machine/Dispatch.lean ====
section
/-! DEFINITION. The meaning of each command, one arm each. -/

namespace Sys2Proof.Machine

def exec (i : Instr) (s : State) : Host.Outcome State Fault Refusal :=
  match i with
  | .nop => Sys2Proof.Machine.execNop s
  | .classifyHdr => Sys2Proof.Machine.execClassifyHdr s
  | .classifyFtr => Sys2Proof.Machine.execClassifyFtr s
  | .classifyData => Sys2Proof.Machine.execClassifyData s
  | .classifyData1 => Sys2Proof.Machine.execClassifyData1 s
  | .validate => Sys2Proof.Machine.execValidate s
  | .demod => Sys2Proof.Machine.execDemod s
  | .extract => Sys2Proof.Machine.execExtract s
  | .build => Sys2Proof.Machine.execBuild s
  | .decode => Sys2Proof.Machine.execDecode s
  | .lock => Sys2Proof.Machine.execLock s

end Sys2Proof.Machine
end

