-- ==== Sys2Proof/Machine/Bus.lean ====
section
/-! DEFINITION. The register space: address map, reads, writes, bus errors, the command port and RST
(20_memory.md, 70_reset_and_hazards.md R190). -/

namespace Sys2Proof.Machine

/-- The word address of CMD (20_memory.md R62). -/
def cmdAddr : Addr := 0x001

/-- The word address of RAW[0] (20_memory.md R62). -/
def rawBase : Nat := 0x100

/-- The register an address below the RAW window names (20_memory.md R62). -/
def lowReg : Nat → Option Reg
  | 0x000 => some .id
  | 0x001 => some .cmd
  | 0x002 => some .status
  | 0x003 => some .clsIn
  | 0x004 => some .clsOut
  | 0x005 => some .rawLen
  | 0x006 => some .bits
  | 0x007 => some .bitsLen
  | 0x008 => some .txRepeat
  | 0x010 => some (.field .systemcode)
  | 0x011 => some (.field .unitcode)
  | 0x012 => some (.field .id)
  | 0x013 => some .fieldPresent
  | 0x020 => some (.prof .frameLen)
  | 0x021 => some (.prof .hdrMin)
  | 0x022 => some (.prof .hdrMax)
  | 0x023 => some (.prof .ftrMin)
  | 0x024 => some (.prof .ftrMax)
  | 0x025 => some (.prof .longThr)
  | 0x026 => some (.prof .firstAdj)
  | 0x027 => some (.prof .short)
  | 0x028 => some (.prof .long)
  | 0x029 => some (.prof .ftrPulse)
  | 0x02A => some (.prof .repeatCount)
  | 0x02B => some (.prof (.fieldSpec .systemcode))
  | 0x02C => some (.prof (.fieldSpec .unitcode))
  | 0x02D => some (.prof (.fieldSpec .id))
  | _ => none

/-- The register an address names, none where it is unmapped; the RAW window has exactly RAW_CAP entries
(20_memory.md R62, R63). -/
def regAt (c : Config) (a : Addr) : Option Reg :=
  if a.toNat < rawBase then lowReg a.toNat
  else if a.toNat - rawBase < c.rawCap then some (.raw (a.toNat - rawBase))
  else none

/-- The word address of a register (20_memory.md R62). -/
def Reg.addr : Reg → Addr
  | .id => 0x000
  | .cmd => 0x001
  | .status => 0x002
  | .clsIn => 0x003
  | .clsOut => 0x004
  | .rawLen => 0x005
  | .bits => 0x006
  | .bitsLen => 0x007
  | .txRepeat => 0x008
  | .field .systemcode => 0x010
  | .field .unitcode => 0x011
  | .field .id => 0x012
  | .fieldPresent => 0x013
  | .prof .frameLen => 0x020
  | .prof .hdrMin => 0x021
  | .prof .hdrMax => 0x022
  | .prof .ftrMin => 0x023
  | .prof .ftrMax => 0x024
  | .prof .longThr => 0x025
  | .prof .firstAdj => 0x026
  | .prof .short => 0x027
  | .prof .long => 0x028
  | .prof .ftrPulse => 0x029
  | .prof .repeatCount => 0x02A
  | .prof (.fieldSpec .systemcode) => 0x02B
  | .prof (.fieldSpec .unitcode) => 0x02C
  | .prof (.fieldSpec .id) => 0x02D
  | .raw k => BitVec.ofNat 12 (rawBase + k)

/-- The word a profile register reads (10_state.md R33 to R43). -/
def Profile.read (p : Profile) : ProfReg → Word
  | .frameLen => p.frameLen
  | .hdrMin => p.hdrMin
  | .hdrMax => p.hdrMax
  | .ftrMin => p.ftrMin
  | .ftrMax => p.ftrMax
  | .longThr => p.longThr
  | .firstAdj => p.firstAdj
  | .short => p.short
  | .long => p.long
  | .ftrPulse => p.ftrPulse
  | .repeatCount => p.repeatCount
  | .fieldSpec n => (p.spec n).toWord

/-- A profile register takes a word; PROF_FIELDn keeps bits 15:0 (10_state.md R33, 20_memory.md R69, R70). -/
def Profile.write (p : Profile) (v : Word) : ProfReg → Profile
  | .frameLen => { p with frameLen := v }
  | .hdrMin => { p with hdrMin := v }
  | .hdrMax => { p with hdrMax := v }
  | .ftrMin => { p with ftrMin := v }
  | .ftrMax => { p with ftrMax := v }
  | .longThr => { p with longThr := v }
  | .firstAdj => { p with firstAdj := v }
  | .short => { p with short := v }
  | .long => { p with long := v }
  | .ftrPulse => { p with ftrPulse := v }
  | .repeatCount => { p with repeatCount := v }
  | .fieldSpec .systemcode => { p with spec0 := .ofWord v }
  | .fieldSpec .unitcode => { p with spec1 := .ofWord v }
  | .fieldSpec .id => { p with spec2 := .ofWord v }

/-- The word a register reads, its reserved bits 0; CMD reads 0 (20_memory.md R67, 10_state.md R22, R24). -/
def readReg (s : State) : Reg → Word
  | .id => Config.idValue
  | .cmd => 0
  | .status => s.status.toWord
  | .clsIn => s.clsIn
  | .clsOut => s.clsOut.setWidth 32
  | .rawLen => s.rawLen
  | .bits => s.bits
  | .bitsLen => s.bitsLen
  | .txRepeat => s.txRepeat
  | .field n => s.field n
  | .fieldPresent => s.fieldPresent.setWidth 32
  | .prof r => s.prof.read r
  | .raw k => s.rawAt k

/-- The block's answer on the bus. -/
def respond (r : BusResponse) (s : State) : State := { s with resp := some r }

/-- `BusRead(a)` (20_memory.md R67, R68). -/
def busRead (a : Addr) (s : State) : State :=
  match regAt s.cfg a with
  | none => respond (.readError 0) (busError s)
  | some r => respond (.readData (readReg s r)) s

/-- The error a word that is no command raises (30_encoding.md R80). -/
def decodeErrorCode : DecodeError → ErrorCode
  | .illegalOpcode => .illegalOpcode
  | .reservedBits => .reservedBits
  | .badClass => .badClass

/-- `perform(w)`: decode and run the command, or raise the decoding error (30_encoding.md R80). -/
def perform (w : Word) (s : State) : Host.Outcome State Fault Refusal :=
  match decode w with
  | .error e => .next (raise (decodeErrorCode e) 0 s)
  | .ok i => exec i s

/-- A write that ends in a bus error (20_memory.md R68). -/
def writeRejected (s : State) : Host.Outcome State Fault Refusal := .next (respond .writeError (busError s))

/-- A write to a register, mapped: `BusWrite` of 20_memory.md R70 after the check for an unmapped address. -/
def writeReg (v : Word) (s : State) : Reg → Host.Outcome State Fault Refusal
  | .id => writeRejected s
  | .status => writeRejected s
  | .clsOut => writeRejected s
  | .bits => writeRejected s
  | .bitsLen => writeRejected s
  | .txRepeat => writeRejected s
  | .prof r => if s.status.locked then writeRejected s else .next (respond .writeDone { s with prof := s.prof.write v r })
  | .rawLen =>
    if s.cfg.rawCap < v.toNat then writeRejected s
    else .next (respond .writeDone (clearTrainFlags { s with rawLen := v }))
  | .cmd => perform v (respond .writeDone s)
  | .raw k => .next (respond .writeDone (clearTrainFlags (writeRaw k v s)))
  | .field n => .next (respond .writeDone (markPresent n (writeField n v s)))
  | .fieldPresent => .next (respond .writeDone { s with fieldPresent := v.setWidth 3 })
  | .clsIn => .next (respond .writeDone { s with clsIn := v })

/-- `BusWrite(a, v)` (20_memory.md R68, R70). -/
def busWrite (a : Addr) (v : Word) (s : State) : Host.Outcome State Fault Refusal :=
  match regAt s.cfg a with
  | none => writeRejected s
  | some r => writeReg v s r

/-- RST asserted: every register in its reset value at once (70_reset_and_hazards.md R190). The parameters and the
host's own events are no registers and stay. -/
def assertRst (s : State) : State := { State.resetWith s.cfg with hostIn := s.hostIn, rstLine := true }

/-- RST released (70_reset_and_hazards.md R192). -/
def releaseRst (s : State) : State := { s with rstLine := false, resp := none }

/-- A host access that overlaps RST has no effect, and the model gives it no answer (70_reset_and_hazards.md R190;
log entry 4). -/
def ignoreAccess (s : State) : State := { s with resp := none }

/-- One host event, with all it makes the core do (00_scope.md R12, 20_memory.md R71, R72). -/
def hostEvent (s : State) : HostEvent → Host.Outcome State Fault Refusal
  | .read a => if s.rstLine then .next (ignoreAccess s) else .next (busRead a s)
  | .write a v => if s.rstLine then .next (ignoreAccess s) else busWrite a v s
  | .rst true => .next (assertRst s)
  | .rst false => .next (releaseRst s)

/-- What a run is worth that ends in `s`: one that leaves STATUS.BERR = 1 is treated as faulted
(70_reset_and_hazards.md R201; log entry 2). A run that had a bus error and then RST, which clears BERR, is not faulted:
the spec leaves that case open, DESIGN CHOICE, log entry 15. -/
def endOfRun (s : State) : Host.Outcome State Fault Refusal :=
  if s.status.berr then .fault .busError else .next s

end Sys2Proof.Machine
end

