-- ==== Sys2Proof/Machine/Step.lean ====
section
/-! DEFINITION. One step of the machine: the next host event (00_scope.md R12). -/

namespace Sys2Proof.Machine

/-- The state that has taken its next host event from the queue. -/
def State.dropEvent (s : State) : State := { s with hostIn := s.hostIn.tail }

/-- One step: the next host event with all it makes the core do, or, with none waiting, an idle block that holds all
its state (70_reset_and_hazards.md R191, R201, 60_exceptions.md R184; log entry 1). -/
def step (s : State) : Host.Outcome State Fault Refusal :=
  match s.hostIn with
  | [] => .next s
  | e :: _ => hostEvent s.dropEvent e

/-- `s` with the command word numbered `w` placed as the host's next event, a write of it to CMD with RST released:
the block fetches nothing (10_state.md R23), and this write is how a command reaches it (R24). Log entry 12. -/
def State.withFetchWord (s : State) (nbits w : Nat) : State :=
  { s with
    hostIn := .write cmdAddr (BitVec.ofNat 32 (w % 2 ^ nbits)) :: s.hostIn
    rstLine := false }

end Sys2Proof.Machine
end

