-- ==== Sys2Proof/Machine/HostProgram.lean ====
section
/-! DEFINITION. The host program notation and its pseudo-instructions, as the host events they stand for
(30_encoding.md R91, R92). They are the host's: no step uses them. -/

namespace Sys2Proof.Machine

/-- `WR <reg>, <value>` (30_encoding.md R91). -/
def wr (r : Reg) (v : Word) : HostEvent := .write r.addr v

/-- `RD <reg>` (30_encoding.md R91). -/
def rd (r : Reg) : HostEvent := .read r.addr

/-- `<mnemonic>`: the write of its command word to CMD (30_encoding.md R91). -/
def command (i : Instr) : HostEvent := wr .cmd (encode i)

/-- The CLASSIFY command of a position class (30_encoding.md R84). -/
def classifyInstr : PosClass → Instr
  | .header => .classifyHdr
  | .footer => .classifyFtr
  | .data => .classifyData
  | .dataFirst => .classifyData1

/-- `CLASSIFY.<c> <d>` (30_encoding.md R92). -/
def classifyOf (c : PosClass) (d : Word) : List HostEvent := [wr .clsIn d, command (classifyInstr c)]

/-- The profile registers in the order LDPROF writes them (30_encoding.md R92). -/
def profRegs : List ProfReg :=
  [.frameLen, .hdrMin, .hdrMax, .ftrMin, .ftrMax, .longThr, .firstAdj, .short, .long, .ftrPulse, .repeatCount,
    .fieldSpec .systemcode, .fieldSpec .unitcode, .fieldSpec .id]

/-- `LDPROF <profile>`: the fourteen profile writes, then LOCK (30_encoding.md R92). -/
def ldprof (p : Profile) : List HostEvent := profRegs.map (fun r => wr (.prof r) (p.read r)) ++ [command .lock]

/-- The writes of a train to RAW from entry k on. -/
def rawWrites (k : Nat) : List Word → List HostEvent
  | [] => []
  | v :: vs => wr (.raw k) v :: rawWrites (k + 1) vs

/-- `LDRAW v0, v1, …` (30_encoding.md R92). -/
def ldraw (vs : List Word) : List HostEvent := rawWrites 0 vs ++ [wr .rawLen (BitVec.ofNat 32 vs.length)]

/-- `SETMSG s, u, i` (30_encoding.md R92). -/
def setmsg (system unit id : Word) : List HostEvent :=
  [wr (.field .systemcode) system, wr (.field .unitcode) unit, wr (.field .id) id]

end Sys2Proof.Machine
end

