-- ==== Sys2Proof/Machine/ProfileDerivation.lean ====
section
/-! DEFINITION. How the host computes a profile's register values from the source's forms, in exact rational
arithmetic (45_profile_and_control.md R156). The block itself computes none of this. -/

namespace Sys2Proof.Machine

/-- A non-negative rational number. -/
structure Ratio where
  num : Nat
  den : Nat
  den_pos : 0 < den := by decide
deriving DecidableEq, Repr

/-- floor(n × q). -/
def Ratio.floorOf (q : Ratio) (n : Nat) : Nat := n * q.num / q.den

/-- ceil(n × q). -/
def Ratio.ceilOf (q : Ratio) (n : Nat) : Nat := (n * q.num + (q.den - 1)) / q.den

/-- The product of two rationals. -/
def Ratio.mul (q r : Ratio) : Ratio where
  num := q.num * r.num
  den := q.den * r.den
  den_pos := Nat.mul_pos q.den_pos r.den_pos

/-- The two source forms of the header window (45_profile_and_control.md R156). -/
inductive HeaderForm where
  /-- "variant-specific absolute windows" -/
  | absolute (low high : Nat)
  /-- "baseline ± fixed offsets" -/
  | aroundBaseline (below above : Nat)
deriving DecidableEq, Repr

/-- The two source forms of the footer (45_profile_and_control.md R156). -/
inductive FooterForm where
  /-- "baseline × footerMultiplier × {lowFactor, highFactor}" -/
  | multiple (factor lowFactor highFactor : Ratio)
  /-- "fixedFooterLength × {0.9, 1.5}" -/
  | fixedLength (length : Nat)
deriving DecidableEq, Repr

/-- A variant in the source's terms (00_scope.md R5, 45_profile_and_control.md R156). -/
structure Variant where
  frameLen : Nat
  baseline : Nat
  multiplier : Ratio
  header : HeaderForm
  footer : FooterForm
  firstAdj : Nat
  longPulse : Nat
  repeatCount : Nat
  spec0 : FieldSpec
  spec1 : FieldSpec
  spec2 : FieldSpec
deriving DecidableEq, Repr

/-- "Any value above 0xFFFFFFFF is loaded as 0xFFFFFFFF" (45_profile_and_control.md R156). -/
def loadValue (n : Nat) : Word := BitVec.ofNat 32 (min n 0xFFFFFFFF)

/-- The window of a header form as natural numbers. -/
def HeaderForm.window (baseline : Nat) : HeaderForm → Nat × Nat
  | .absolute low high => (low, high)
  | .aroundBaseline below above => (baseline - below, baseline + above)

/-- The window of a footer form as natural numbers: minima round up, maxima down. -/
def FooterForm.window (baseline : Nat) : FooterForm → Nat × Nat
  | .multiple f low high => ((f.mul low).ceilOf baseline, (f.mul high).floorOf baseline)
  | .fixedLength l => ((⟨9, 10, by decide⟩ : Ratio).ceilOf l, (⟨3, 2, by decide⟩ : Ratio).floorOf l)

/-- The footer duration BUILD emits. -/
def FooterForm.pulse (baseline : Nat) : FooterForm → Nat
  | .multiple f _ _ => f.floorOf baseline
  | .fixedLength l => l

/-- The values the host loads into the profile registers (45_profile_and_control.md R156). -/
def Variant.profile (v : Variant) : Profile where
  frameLen := loadValue v.frameLen
  hdrMin := loadValue (v.header.window v.baseline).1
  hdrMax := loadValue (v.header.window v.baseline).2
  ftrMin := loadValue (v.footer.window v.baseline).1
  ftrMax := loadValue (v.footer.window v.baseline).2
  longThr := loadValue (v.multiplier.floorOf v.baseline)
  firstAdj := loadValue v.firstAdj
  short := loadValue v.baseline
  long := loadValue v.longPulse
  ftrPulse := loadValue (v.footer.pulse v.baseline)
  repeatCount := loadValue v.repeatCount
  spec0 := v.spec0
  spec1 := v.spec1
  spec2 := v.spec2

end Sys2Proof.Machine
end

