-- ==== Sys2Proof/WellFormed.lean ====
section
/-! DEFINITION. What is well formed: the parameters (00_scope.md R6), a command word (30_encoding.md R80) and a
command. -/

namespace Sys2Proof

/-- RAW_CAP is a capacity the spec allows: 4 ≤ RAW_CAP ≤ 256 (00_scope.md R6). -/
def Config.wellFormed (c : Config) : Bool := decide (4 ≤ c.rawCap ∧ c.rawCap ≤ 256)

/-- Every command is well formed: it has no operand that a check could refuse (30_encoding.md R81). -/
def Instr.wellFormed : Instr → Bool
  | .nop => true
  | .classifyHdr => true
  | .classifyFtr => true
  | .classifyData => true
  | .classifyData1 => true
  | .validate => true
  | .demod => true
  | .extract => true
  | .build => true
  | .decode => true
  | .lock => true

/-- A word that encodes a command: OPC below 8, the reserved bits 0, SUB 0 but for CLASSIFY, SUB below 4 for CLASSIFY
(30_encoding.md R80, R85, R86). Said on the word as a number, apart from the decoder. -/
def commandWordWellFormed (w : Word) : Bool :=
  decide (w.toNat % 16 < 8 ∧ w.toNat / 256 = 0 ∧ (w.toNat % 16 ≠ 1 → w.toNat / 16 % 16 = 0) ∧
    (w.toNat % 16 = 1 → w.toNat / 16 % 16 < 4))

end Sys2Proof
end

