-- ==== Sys2Proof/Safety.lean ====
section
/-! DEFINITION. The terms claims are stated in: a profile LOCK may accept, a frame that passes, a built train, legal
result fields, the invariant of the states a run can reach, and round-trip-safe profiles. They say the spec's rules
apart from the machine's own functions. -/

namespace Sys2Proof.Machine

/-- The seven conditions of 45_profile_and_control.md R159, all met. -/
structure LegalProfile (c : Config) (p : Profile) : Prop where
  even : p.frameLen.toNat % 2 = 0
  atLeast : 4 ≤ p.frameLen.toNat
  fitsRaw : p.frameLen.toNat ≤ c.rawCap
  fitsBits : p.frameLen.toNat ≤ 66
  width : ∀ n, 1 ≤ p.width n ∧ p.width n ≤ 32
  bounds : ∀ n, p.offset n + p.width n ≤ (p.frameLen.toNat - 2) / 2
  budget : p.width .systemcode + p.width .unitcode + p.width .id ≤ (p.frameLen.toNat - 2) / 2
  apart : ∀ m n, m ≠ n → p.offset m + p.width m ≤ p.offset n ∨ p.offset n + p.width n ≤ p.offset m
  adjustment : p.firstAdj.toNat ≤ p.longThr.toNat

/-- A duration lies in the inclusive header window (40_classifier.md R101). -/
abbrev Profile.headerFits (p : Profile) (d : Word) : Prop := p.hdrMin.toNat ≤ d.toNat ∧ d.toNat ≤ p.hdrMax.toNat

/-- A duration lies in the inclusive footer window (40_classifier.md R102). -/
abbrev Profile.footerFits (p : Profile) (d : Word) : Prop := p.ftrMin.toNat ≤ d.toNat ∧ d.toNat ≤ p.ftrMax.toNat

/-- The train in RAW passes all three checks of 41_validator.md R111 to R113. -/
def State.FramePasses (s : State) : Prop :=
  s.rawLen = s.prof.frameLen ∧ s.prof.headerFits (s.rawAt 0) ∧
    s.prof.footerFits (s.rawAt (s.prof.frameLen.toNat - 1))

/-- Vector position q of the message in FIELD0..2 is a one: q lies in the slice of a field, and the bit of the
field's value that goes there, counted from the most significant one, is set (44_builder.md R146). -/
def State.MessageBit (s : State) (q : Nat) : Prop :=
  ∃ n, s.prof.offset n ≤ q ∧ q < s.prof.offset n + s.prof.width n ∧
    (s.field n).toNat.testBit (s.prof.width n - 1 - (q - s.prof.offset n)) = true

/-- RAW holds a train BUILD makes under the profile (44_builder.md R144 to R148): the header, the footer, and every
symbol pair a zero or a one pattern. -/
def State.TrainBuilt (s : State) : Prop :=
  s.rawLen = s.prof.frameLen ∧ s.txRepeat = s.prof.repeatCount ∧ s.rawAt 0 = s.prof.short ∧
    s.rawAt (s.prof.frameLen.toNat - 1) = s.prof.ftrPulse ∧
    ∀ q, q < (s.prof.frameLen.toNat - 2) / 2 →
      (s.rawAt (2 * q + 1) = s.prof.short ∧ s.rawAt (2 * q + 2) = s.prof.long) ∨
        (s.rawAt (2 * q + 1) = s.prof.long ∧ s.rawAt (2 * q + 2) = s.prof.short)

/-- The errors whose EIDX is a field number (60_exceptions.md R170). -/
def ErrorCode.hasIndex : ErrorCode → Bool
  | .fieldMissing | .fieldOverflow | .fieldWidth | .fieldBounds | .fieldOverlap => true
  | .frameLength | .headerWindow | .footerWindow | .demodLength | .frameLenOdd | .frameLenRange | .fieldBudget
  | .firstAdjRange | .illegalOpcode | .reservedBits | .badClass | .notLocked | .alreadyLocked | .noBits => false

/-- The result fields report the error `e` as a row of the table of 60_exceptions.md R170 has it. -/
def Status.Reports (st : Status) (e : ErrorCode) : Prop :=
  st.ok = false ∧ st.eclass = e.eclass ∧ st.ecode = e.ecode ∧
    (if e.hasIndex then st.eidx.toNat ≤ 2 else st.eidx = 0)

/-- The class, index and code fields are all 0. -/
def Status.NoError (st : Status) : Prop := st.eclass = 0 ∧ st.eidx = 0 ∧ st.ecode = 0

/-- The result fields hold a combination the block can show: no command yet, success, or one of the listed errors
(10_state.md R26, 60_exceptions.md R170). -/
def Status.ResultLegal (st : Status) : Prop := st.NoError ∨ ∃ e, st.Reports e

/-- What holds of every state a run from reset can reach. -/
structure State.Inv (s : State) : Prop where
  /-- 00_scope.md R6. -/
  config : s.cfg.wellFormed = true
  /-- 10_state.md R47: RAW has RAW_CAP entries. -/
  rawSize : s.raw.length = s.cfg.rawCap
  /-- 10_state.md R46. -/
  rawLenFits : s.rawLen.toNat ≤ s.cfg.rawCap
  /-- 30_encoding.md R90: codes 6 and 7 are never produced. -/
  symbol : s.clsOut.toNat ≤ 5
  /-- 60_exceptions.md R170: only the listed combinations are produced. -/
  result : s.status.ResultLegal
  /-- 45_profile_and_control.md R159: a locked profile has passed the checks. -/
  lockedLegal : s.status.locked = true → LegalProfile s.cfg s.prof
  /-- 10_state.md R29, R49. -/
  vectorHeld : s.status.bitsValid = true → s.status.locked = true ∧ s.bitsLen.toNat = (s.prof.frameLen.toNat - 2) / 2
  /-- 10_state.md R48, R49: nothing else writes BITS and BITS_LEN. -/
  vectorEmpty : s.status.bitsValid = false → s.bits = 0 ∧ s.bitsLen = 0
  /-- 10_state.md R48: the bits from BITS_LEN up are 0. -/
  bitsAbove : ∀ q, s.bitsLen.toNat ≤ q → s.bits.getLsbD q = false
  /-- 10_state.md R28: FRAME_OK says that the current RAW passed validation. -/
  frameOk : s.status.frameOk = true → s.status.locked = true ∧ s.FramePasses
  /-- 10_state.md R30: TX_READY says that RAW holds a frame made by BUILD. -/
  txReady : s.status.txReady = true → s.status.locked = true ∧ s.TrainBuilt

/-- The four conditions of 45_profile_and_control.md R162. -/
structure Profile.RoundTripSafe (p : Profile) : Prop where
  header : p.headerFits p.short
  footer : p.footerFits p.ftrPulse
  shortIsZero : p.short.toNat ≤ p.longThr.toNat - p.firstAdj.toNat
  longIsOne : p.longThr.toNat < p.long.toNat

/-- The status of a command that succeeded (60_exceptions.md R171). -/
def Status.success (st : Status) : Status := { st with ok := true, eclass := 0, eidx := 0, ecode := 0 }

/-- The status of a command that raised an error with this class, index and code (60_exceptions.md R172). -/
def Status.failure (st : Status) (eclass : BitVec 3) (eidx : BitVec 2) (ecode : BitVec 8) : Status :=
  { st with ok := false, eclass := eclass, eidx := eidx, ecode := ecode }

/-- The same instance placed at another HOST_BASE with another HOST_BYTE_ORDER (93_implementation_defined.md I11, I12). -/
def State.placedAt (s : State) (base : Nat) (order : Vector (Fin 4) 4) : State :=
  { s with cfg := { s.cfg with hostBase := base, hostByteOrder := order } }

/-- A run that ends in this state is treated as faulted (70_reset_and_hazards.md R201; log entries 2 and 15). -/
def State.Faulted (s : State) : Prop := endOfRun s = .fault .busError

end Sys2Proof.Machine
end

