-- ==== Sys2Proof/Certificates/Slice0/Obligations.lean ====
section
/-! DEFINITION. The statements for the provers. Each docstring names the rule of the spec it formalises. -/

open Sys2Proof Sys2Proof.Machine

/-! ### Command words -/

/-- 30_encoding.md R92: the eleven command words decode to their commands. -/
def Obligations.CommandWordsDecode : Prop :=
  decode 0x00000000 = .ok .nop ∧ decode 0x00000001 = .ok .classifyHdr ∧ decode 0x00000011 = .ok .classifyFtr ∧
    decode 0x00000021 = .ok .classifyData ∧ decode 0x00000031 = .ok .classifyData1 ∧
    decode 0x00000002 = .ok .validate ∧ decode 0x00000003 = .ok .demod ∧ decode 0x00000004 = .ok .extract ∧
    decode 0x00000005 = .ok .build ∧ decode 0x00000006 = .ok .decode ∧ decode 0x00000007 = .ok .lock

/-- 30_encoding.md R80 to R92: decoding a command's word gives the command, and no other word decodes to it. -/
def Obligations.DecodeAndEncodeAgree : Prop :=
  (∀ i : Instr, i.wellFormed = true → decode (encode i) = .ok i) ∧
    ∀ (w : Word) (i : Instr), decode w = .ok i → w = encode i

/-- 30_encoding.md R80: the decoder accepts exactly the words whose fields pass the checks on the word. -/
def Obligations.DecodeAcceptsWellFormedWords : Prop :=
  ∀ w : Word, (∃ i, decode w = .ok i) ↔ commandWordWellFormed w = true

/-- 30_encoding.md R85, R86: words that are no command raise ILLEGAL_OPCODE, RESERVED_BITS or BAD_CLASS and change
nothing but the result fields. -/
def Obligations.IllegalWordsRaise : Prop :=
  ∀ (w : Word) (s : State),
    (8 ≤ w.toNat % 16 → perform w s = .next { s with status := s.status.failure 4 0 0x30 }) ∧
    (w.toNat % 16 < 8 → w.toNat / 256 ≠ 0 → perform w s = .next { s with status := s.status.failure 4 0 0x31 }) ∧
    (w.toNat % 16 < 8 → w.toNat % 16 ≠ 1 → w.toNat / 16 % 16 ≠ 0 →
      perform w s = .next { s with status := s.status.failure 4 0 0x31 }) ∧
    (w.toNat / 256 = 0 → w.toNat % 16 = 1 → 4 ≤ w.toNat / 16 % 16 →
      perform w s = .next { s with status := s.status.failure 4 0 0x32 })

/-! ### Steps -/

/-- 10_state.md R24, 20_memory.md R71: a write of a command word to CMD, taken while RST is released, runs that command
in the state the host's write leaves: the event taken, the write answered. -/
def Obligations.StepRunsDecodedCommand : Prop :=
  ∀ (s : State) (w : Word) (rest : List HostEvent) (i : Instr),
    s.hostIn = .write 0x001 w :: rest → s.rstLine = false → decode w = .ok i →
      step s = exec i { s with hostIn := rest, resp := some .writeDone }

/-- Log entry 12: a command word placed by `withFetchWord` is what the next step runs. -/
def Obligations.FetchWordIsRunNext : Prop :=
  ∀ (s : State) (i : Instr),
    step (s.withFetchWord 32 (encode i).toNat) = exec i { s with rstLine := false, resp := some .writeDone }

/-- 70_reset_and_hazards.md R191, R201, 60_exceptions.md R184: with no host event waiting the block holds all its
state. That the model's step is then an idle one is log entry 1. -/
def Obligations.IdleBlockHoldsState : Prop := ∀ s : State, s.hostIn = [] → step s = .next s

/-- 70_reset_and_hazards.md R200: every command finishes, and every step of the machine answers a next state. That a
bus error answers one too is the model's reading, log entry 2. -/
def Obligations.EveryStepAnswersNext : Prop :=
  (∀ (i : Instr) (s : State), ∃ t, exec i s = .next t) ∧ ∀ s : State, ∃ t, step s = .next t

/-! ### Reset -/

/-- 70_reset_and_hazards.md R190: after reset every mapped register reads 0 except ID. -/
def Obligations.ResetRegistersReadZero : Prop :=
  ∀ (c : Config) (a : Addr) (r : Reg), regAt c a = some r →
    readReg (State.resetWith c) r = if r = .id then 0x4F4F4B07 else 0

/-- 70_reset_and_hazards.md R190: asserting RST puts every register in its reset value from any state, releasing it
changes no register, and a host access that overlaps RST has no effect on any register (that RST is a level line, and
what such an access is answered, are the model's own, log entry 4). -/
def Obligations.RstResetsAndBlocksAccesses : Prop :=
  (∀ (s : State) (rest : List HostEvent), s.hostIn = .rst true :: rest →
      step s = .next { State.resetWith s.cfg with hostIn := rest, rstLine := true }) ∧
    (∀ (s : State) (rest : List HostEvent), s.hostIn = .rst false :: rest →
      ∃ t, step s = .next t ∧ t = { s with hostIn := rest, rstLine := false, resp := t.resp }) ∧
    ∀ (s : State) (e : HostEvent) (rest : List HostEvent), s.hostIn = e :: rest → (∀ b, e ≠ .rst b) →
      s.rstLine = true → ∃ t, step s = .next t ∧ t = { s with hostIn := rest, resp := t.resp }

/-! ### NOP and CLASSIFY -/

/-- 45_profile_and_control.md R160: NOP sets OK, clears ECLASS, EIDX and ECODE and changes nothing else, locked or not;
its word is 0, and a word with OPC = 0 and other bits set raises RESERVED_BITS. -/
def Obligations.NopOnlyWritesSuccess : Prop :=
  (∀ s : State, exec .nop s = .next { s with status := s.status.success }) ∧ decode 0x00000000 = .ok .nop ∧
    ∀ (w : Word) (s : State), w.toNat % 16 = 0 → w ≠ 0 →
      perform w s = .next { s with status := s.status.failure 4 0 0x31 }

/-- 40_classifier.md R101: the header class is the inclusive header window, and CLASSIFY.HDR stores its code, 3 or 5,
with success and nothing else written. -/
def Obligations.ClassifyHeaderIsInclusiveWindow : Prop :=
  (∀ (p : Profile) (d : Word),
      classify p d .header =
        if p.hdrMin.toNat ≤ d.toNat ∧ d.toNat ≤ p.hdrMax.toNat then .headerOk else .invalid) ∧
    ∀ s : State, s.status.locked = true →
      exec .classifyHdr s = .next { s with
        clsOut := if s.prof.hdrMin.toNat ≤ s.clsIn.toNat ∧ s.clsIn.toNat ≤ s.prof.hdrMax.toNat then 3 else 5
        status := s.status.success }

/-- 40_classifier.md R102: the footer class is the inclusive footer window, and CLASSIFY.FTR stores its code, 4 or 5,
with success and nothing else written. -/
def Obligations.ClassifyFooterIsInclusiveWindow : Prop :=
  (∀ (p : Profile) (d : Word),
      classify p d .footer =
        if p.ftrMin.toNat ≤ d.toNat ∧ d.toNat ≤ p.ftrMax.toNat then .footerOk else .invalid) ∧
    ∀ s : State, s.status.locked = true →
      exec .classifyFtr s = .next { s with
        clsOut := if s.prof.ftrMin.toNat ≤ s.clsIn.toNat ∧ s.clsIn.toNat ≤ s.prof.ftrMax.toNat then 4 else 5
        status := s.status.success }

/-- 40_classifier.md R103: a data pulse is LONG exactly above LONG_THR and SHORT otherwise, and CLASSIFY.DATA stores
its code, 2 or 1, with success and nothing else written. -/
def Obligations.ClassifyDataIsStrictThreshold : Prop :=
  (∀ (p : Profile) (d : Word), classify p d .data = if p.longThr.toNat < d.toNat then .long else .short) ∧
    ∀ s : State, s.status.locked = true →
      exec .classifyData s = .next { s with
        clsOut := if s.prof.longThr.toNat < s.clsIn.toNat then 2 else 1
        status := s.status.success }

/-- 40_classifier.md R104: the first data pair has the threshold LONG_THR - FIRST_ADJ, said without a subtraction, for
a profile LOCK may accept; with FIRST_ADJ = 0 the class equals DATA. -/
def Obligations.ClassifyFirstDataLowersThreshold : Prop :=
  (∀ (p : Profile) (d : Word), p.firstAdj.toNat ≤ p.longThr.toNat →
      classify p d .dataFirst = if p.longThr.toNat < d.toNat + p.firstAdj.toNat then .long else .short) ∧
    (∀ (p : Profile) (d : Word), p.firstAdj = 0 → classify p d .dataFirst = classify p d .data) ∧
    ∀ s : State, s.status.locked = true → s.prof.firstAdj.toNat ≤ s.prof.longThr.toNat →
      exec .classifyData1 s = .next { s with
        clsOut := if s.prof.longThr.toNat < s.clsIn.toNat + s.prof.firstAdj.toNat then 2 else 1
        status := s.status.success }

/-! ### VALIDATE -/

/-- 41_validator.md R114: a train of the right length with header and footer inside their windows completes, sets
FRAME_OK and changes nothing else. -/
def Obligations.ValidateAcceptsPassingFrame : Prop :=
  ∀ s : State, s.status.locked = true → s.rawLen = s.prof.frameLen →
    s.prof.headerFits (s.rawAt 0) → s.prof.footerFits (s.rawAt (s.prof.frameLen.toNat - 1)) →
      exec .validate s = .next { s with status := { s.status.success with frameOk := true } }

/-- 41_validator.md R111, R112, R113: the first failing check of length, header and footer is reported as
FRAME_LENGTH, HEADER_WINDOW or FOOTER_WINDOW, FRAME_OK is cleared, and nothing else changes. -/
def Obligations.ValidateReportsFirstFailure : Prop :=
  ∀ s : State, s.status.locked = true →
    (s.rawLen ≠ s.prof.frameLen →
      exec .validate s = .next { s with status := { s.status.failure 1 0 0x01 with frameOk := false } }) ∧
    (s.rawLen = s.prof.frameLen → ¬ s.prof.headerFits (s.rawAt 0) →
      exec .validate s = .next { s with status := { s.status.failure 1 0 0x02 with frameOk := false } }) ∧
    (s.rawLen = s.prof.frameLen → s.prof.headerFits (s.rawAt 0) →
      ¬ s.prof.footerFits (s.rawAt (s.prof.frameLen.toNat - 1)) →
      exec .validate s = .next { s with status := { s.status.failure 1 0 0x03 with frameOk := false } })

/-- 41_validator.md R110: validation reads no pulse but the first and the last of the frame: two states that agree on
the profile, RAW_LEN and those two pulses get the same result fields and FRAME_OK from VALIDATE. -/
def Obligations.ValidateIgnoresBodyPulses : Prop :=
  ∀ s t s' t' : State, s.status.locked = true → s.status = t.status → s.prof = t.prof → s.rawLen = t.rawLen →
    s.rawAt 0 = t.rawAt 0 → s.rawAt (s.prof.frameLen.toNat - 1) = t.rawAt (s.prof.frameLen.toNat - 1) →
      exec .validate s = .next s' → exec .validate t = .next t' → s'.status = t'.status

/-! ### DEMOD -/

/-- 42_demodulator.md R121 to R126: on a train of FRAME_LEN pulses, whatever its header and footer, DEMOD completes;
bit q of BITS is 1 exactly when q is below BV_LEN and the key pulse RAW[2q+1] is above its pair's threshold, lowered by
FIRST_ADJ for pair 0; BITS_LEN is BV_LEN, BITS_VALID is set, and nothing else changes. -/
def Obligations.DemodReadsKeyPulses : Prop :=
  ∀ s : State, s.status.locked = true → LegalProfile s.cfg s.prof → s.rawLen = s.prof.frameLen →
    ∃ t, exec .demod s = .next t ∧
      t = { s with bits := t.bits, bitsLen := t.bitsLen, status := { s.status.success with bitsValid := true } } ∧
      t.bitsLen.toNat = (s.prof.frameLen.toNat - 2) / 2 ∧
      ∀ q, t.bits.getLsbD q = true ↔ q < (s.prof.frameLen.toNat - 2) / 2 ∧
        s.prof.longThr.toNat < (s.rawAt (2 * q + 1)).toNat + (if q = 0 then s.prof.firstAdj.toNat else 0)

/-- 42_demodulator.md R124: a train longer or shorter than the frame raises DEMOD_LENGTH, and BITS, BITS_LEN,
BITS_VALID and all else but the result fields are unchanged. -/
def Obligations.DemodRejectsOtherLengths : Prop :=
  ∀ s : State, s.status.locked = true → s.rawLen ≠ s.prof.frameLen →
    exec .demod s = .next { s with status := s.status.failure 1 0 0x04 }

/-- 42_demodulator.md R121, R123: only the key pulses are read: trains that agree on RAW_LEN and on every RAW[2q+1]
with q below BV_LEN give the same BITS and BITS_LEN. -/
def Obligations.DemodIgnoresOtherPulses : Prop :=
  ∀ s t s' t' : State, s.status.locked = true → s.status = t.status → s.prof = t.prof → s.rawLen = t.rawLen →
    s.rawLen = s.prof.frameLen →
    (∀ q, q < (s.prof.frameLen.toNat - 2) / 2 → s.rawAt (2 * q + 1) = t.rawAt (2 * q + 1)) →
      exec .demod s = .next s' → exec .demod t = .next t' → s'.bits = t'.bits ∧ s'.bitsLen = t'.bitsLen

/-! ### EXTRACT -/

/-- 43_extractor.md R130, R131, R132: with BITS_VALID set, EXTRACT completes; each FIELDn is the sum over its slice of
BITS with the slice's first bit most significant, FIELD_PRESENT is 0b111, and nothing else changes. -/
def Obligations.ExtractReadsSlicesMsbFirst : Prop :=
  ∀ s : State, s.status.locked = true → LegalProfile s.cfg s.prof → s.status.bitsValid = true →
    ∃ t, exec .extract s = .next t ∧
      t = { s with
        field0 := t.field0, field1 := t.field1, field2 := t.field2, fieldPresent := 7
        status := s.status.success } ∧
      ∀ n, (t.field n).toNat = ∑ j ∈ Finset.range (s.prof.width n),
        (s.bits.getLsbD (s.prof.offset n + j)).toNat * 2 ^ (s.prof.width n - 1 - j)

/-- 43_extractor.md R134: with BITS_VALID clear, EXTRACT raises NO_BITS and writes no field. -/
def Obligations.ExtractNeedsVector : Prop :=
  ∀ s : State, s.status.locked = true → s.status.bitsValid = false →
    exec .extract s = .next { s with status := s.status.failure 4 0 0x35 }

/-! ### BUILD -/

/-- 44_builder.md R144 to R148: with every field present and, under the policy ERROR, below 2^WIDTH, BUILD completes:
the header is SHORT_PULSE, the footer FTR_PULSE, symbol pair q is (LONG, SHORT) where the message has a one and
(SHORT, LONG) elsewhere, entries from FRAME_LEN up are unchanged; RAW_LEN, TX_REPEAT, TX_READY and FRAME_OK are
written, and nothing else. -/
def Obligations.BuildPlacesMessagePulses : Prop :=
  ∀ s : State, s.status.locked = true → LegalProfile s.cfg s.prof → s.raw.length = s.cfg.rawCap →
    (∀ n, s.present n = true) →
    (s.cfg.overflowPolicy = .error → ∀ n, (s.field n).toNat < 2 ^ s.prof.width n) →
    ∃ t, exec .build s = .next t ∧
      t = { s with
        raw := t.raw, rawLen := s.prof.frameLen, txRepeat := s.prof.repeatCount
        status := { s.status.success with txReady := true, frameOk := false } } ∧
      t.raw.length = s.raw.length ∧
      t.rawAt 0 = s.prof.short ∧
      t.rawAt (s.prof.frameLen.toNat - 1) = s.prof.ftrPulse ∧
      (∀ q, q < (s.prof.frameLen.toNat - 2) / 2 →
        (s.MessageBit q → t.rawAt (2 * q + 1) = s.prof.long ∧ t.rawAt (2 * q + 2) = s.prof.short) ∧
        (¬ s.MessageBit q → t.rawAt (2 * q + 1) = s.prof.short ∧ t.rawAt (2 * q + 2) = s.prof.long)) ∧
      ∀ k, s.prof.frameLen.toNat ≤ k → t.rawAt k = s.rawAt k

/-- 44_builder.md R141: the first absent field is reported as FIELD_MISSING with its number, before any width check,
and nothing but the result fields changes. -/
def Obligations.BuildReportsMissingField : Prop :=
  ∀ (s : State) (n : FieldId), s.status.locked = true → s.present n = false →
    (∀ m : FieldId, m.index < n.index → s.present m = true) →
      exec .build s = .next { s with status := s.status.failure 2 n.eidx 0x10 }

/-- 44_builder.md R142: under the policy ERROR, with every field present, the first field that does not fit its width
is reported as FIELD_OVERFLOW with its number, and nothing but the result fields changes. -/
def Obligations.BuildReportsOverflow : Prop :=
  ∀ (s : State) (n : FieldId), s.status.locked = true → s.cfg.overflowPolicy = .error →
    (∀ m, s.present m = true) → 2 ^ s.prof.width n ≤ (s.field n).toNat →
    (∀ m : FieldId, m.index < n.index → (s.field m).toNat < 2 ^ s.prof.width m) →
      exec .build s = .next { s with status := s.status.failure 2 n.eidx 0x11 }

/-- 44_builder.md R150: a successful BUILD sets RAW_LEN to FRAME_LEN, whatever the field values. -/
def Obligations.BuildKeepsFrameLength : Prop :=
  ∀ s t : State, exec .build s = .next t → t.status.ok = true → t.rawLen = s.prof.frameLen

/-! ### LOCK -/

/-- 45_profile_and_control.md R158, R159: while unlocked, LOCK sets LOCKED, with success and nothing else written,
exactly when the profile meets all seven conditions; else it raises a ConfigurationError and writes only the result
fields. -/
def Obligations.LockAcceptsExactlyLegalProfiles : Prop :=
  ∀ s : State, s.status.locked = false →
    (LegalProfile s.cfg s.prof →
      exec .lock s = .next { s with status := { s.status.success with locked := true } }) ∧
    (¬ LegalProfile s.cfg s.prof →
      ∃ idx code, exec .lock s = .next { s with status := s.status.failure 3 idx code })

/-- 45_profile_and_control.md R159: the seven checks in their order, each reported, with its code and field number,
when it fails and all before it pass. -/
def Obligations.LockReportsFirstFailure : Prop :=
  ∀ s : State, s.status.locked = false →
    (s.prof.frameLen.toNat % 2 = 1 → exec .lock s = .next { s with status := s.status.failure 3 0 0x20 }) ∧
    (s.prof.frameLen.toNat % 2 = 0 →
      (s.prof.frameLen.toNat < 4 ∨ min s.cfg.rawCap 66 < s.prof.frameLen.toNat →
        exec .lock s = .next { s with status := s.status.failure 3 0 0x21 }) ∧
      (4 ≤ s.prof.frameLen.toNat → s.prof.frameLen.toNat ≤ min s.cfg.rawCap 66 →
        (∀ n : FieldId, s.prof.width n = 0 ∨ 32 < s.prof.width n →
          (∀ m : FieldId, m.index < n.index → 1 ≤ s.prof.width m ∧ s.prof.width m ≤ 32) →
          exec .lock s = .next { s with status := s.status.failure 3 n.eidx 0x22 }) ∧
        ((∀ n, 1 ≤ s.prof.width n ∧ s.prof.width n ≤ 32) →
          (∀ n : FieldId, (s.prof.frameLen.toNat - 2) / 2 < s.prof.offset n + s.prof.width n →
            (∀ m : FieldId, m.index < n.index →
              s.prof.offset m + s.prof.width m ≤ (s.prof.frameLen.toNat - 2) / 2) →
            exec .lock s = .next { s with status := s.status.failure 3 n.eidx 0x23 }) ∧
          ((∀ n, s.prof.offset n + s.prof.width n ≤ (s.prof.frameLen.toNat - 2) / 2) →
            ((s.prof.frameLen.toNat - 2) / 2 <
                s.prof.width .systemcode + s.prof.width .unitcode + s.prof.width .id →
              exec .lock s = .next { s with status := s.status.failure 3 0 0x24 }) ∧
            (s.prof.width .systemcode + s.prof.width .unitcode + s.prof.width .id ≤
                (s.prof.frameLen.toNat - 2) / 2 →
              (∀ m n : FieldId, m.index < n.index →
                (∃ q, (s.prof.offset m ≤ q ∧ q < s.prof.offset m + s.prof.width m) ∧
                  s.prof.offset n ≤ q ∧ q < s.prof.offset n + s.prof.width n) →
                (∀ k l : FieldId, k.index < l.index → l.index < n.index →
                  ∀ q, s.prof.offset k ≤ q → q < s.prof.offset k + s.prof.width k →
                    ¬ (s.prof.offset l ≤ q ∧ q < s.prof.offset l + s.prof.width l)) →
                exec .lock s = .next { s with status := s.status.failure 3 n.eidx 0x25 }) ∧
              ((∀ m n : FieldId, m ≠ n → s.prof.offset m + s.prof.width m ≤ s.prof.offset n ∨
                  s.prof.offset n + s.prof.width n ≤ s.prof.offset m) →
                s.prof.longThr.toNat < s.prof.firstAdj.toNat →
                exec .lock s = .next { s with status := s.status.failure 3 0 0x26 }))))))

/-- 45_profile_and_control.md R158: LOCK while locked raises ALREADY_LOCKED; the profile and all else but the result
fields are unchanged. LOCK right after reset fails with FRAME_LEN_RANGE. -/
def Obligations.LockOnlyOnce : Prop :=
  (∀ s : State, s.status.locked = true → exec .lock s = .next { s with status := s.status.failure 4 0 0x34 }) ∧
    ∀ c : Config, exec .lock (State.resetWith c) =
      .next { State.resetWith c with status := Status.reset.failure 3 0 0x21 }

/-! ### DECODE -/

/-- 45_profile_and_control.md R161: on a train that passes the three checks, DECODE completes: BITS holds the bits of
the key pulses, each FIELDn the value of its slice of key pulses with the first most significant, FIELD_PRESENT is
0b111, FRAME_OK and BITS_VALID are set, and nothing else changes. -/
def Obligations.DecodeReadsWholeFrame : Prop :=
  ∀ s : State, s.status.locked = true → LegalProfile s.cfg s.prof → s.FramePasses →
    ∃ t, exec .decode s = .next t ∧
      t = { s with
        bits := t.bits, bitsLen := t.bitsLen
        field0 := t.field0, field1 := t.field1, field2 := t.field2, fieldPresent := 7
        status := { s.status.success with frameOk := true, bitsValid := true } } ∧
      t.bitsLen.toNat = (s.prof.frameLen.toNat - 2) / 2 ∧
      (∀ q, t.bits.getLsbD q = true ↔ q < (s.prof.frameLen.toNat - 2) / 2 ∧
        s.prof.longThr.toNat < (s.rawAt (2 * q + 1)).toNat + (if q = 0 then s.prof.firstAdj.toNat else 0)) ∧
      ∀ n, (t.field n).toNat = ∑ j ∈ Finset.range (s.prof.width n),
        (if s.prof.longThr.toNat < (s.rawAt (2 * (s.prof.offset n + j) + 1)).toNat +
          (if s.prof.offset n + j = 0 then s.prof.firstAdj.toNat else 0) then 1 else 0) *
          2 ^ (s.prof.width n - 1 - j)

/-- 45_profile_and_control.md R161: DECODE of a train that fails a check reports the first failure as VALIDATE does and
clears FRAME_OK; BITS, BITS_LEN, BITS_VALID, FIELD0..2, FIELD_PRESENT and all else are unchanged. -/
def Obligations.DecodeRejectsAsValidate : Prop :=
  ∀ s : State, s.status.locked = true →
    (s.rawLen ≠ s.prof.frameLen →
      exec .decode s = .next { s with status := { s.status.failure 1 0 0x01 with frameOk := false } }) ∧
    (s.rawLen = s.prof.frameLen → ¬ s.prof.headerFits (s.rawAt 0) →
      exec .decode s = .next { s with status := { s.status.failure 1 0 0x02 with frameOk := false } }) ∧
    (s.rawLen = s.prof.frameLen → s.prof.headerFits (s.rawAt 0) →
      ¬ s.prof.footerFits (s.rawAt (s.prof.frameLen.toNat - 1)) →
      exec .decode s = .next { s with status := { s.status.failure 1 0 0x03 with frameOk := false } })

/-- 30_encoding.md R83, 45_profile_and_control.md R161: DECODE is VALIDATE, DEMOD and EXTRACT in one command: where
VALIDATE succeeds, the three in a row end in the state DECODE ends in. -/
def Obligations.DecodeIsValidateDemodExtract : Prop :=
  ∀ s s1 s2 s3 : State, LegalProfile s.cfg s.prof → exec .validate s = .next s1 → s1.status.ok = true →
    exec .demod s1 = .next s2 → exec .extract s2 = .next s3 → exec .decode s = .next s3

/-! ### Rules about every command -/

/-- 45_profile_and_control.md R163: while the profile is not locked, every command but NOP and LOCK raises NOT_LOCKED
and writes nothing else; NOP then completes and LOCK does not raise NOT_LOCKED. -/
def Obligations.CommandsNeedLock : Prop :=
  ∀ s : State, s.status.locked = false →
    (∀ i : Instr, i ≠ .nop → i ≠ .lock → exec i s = .next { s with status := s.status.failure 4 0 0x33 }) ∧
    (∃ t, exec .nop s = .next t ∧ t.status.ok = true) ∧
    ∃ t, exec .lock s = .next t ∧ t.status.ecode ≠ 0x33

/-- 60_exceptions.md R174: a command word that raises writes no register except the result fields, and FRAME_OK where
VALIDATE or DECODE clears it with a StructuralError. -/
def Obligations.RaisingWritesNoResult : Prop :=
  ∀ (w : Word) (s t : State), perform w s = .next t → t.status.ok = false →
    (t = { s with status := s.status.failure t.status.eclass t.status.eidx t.status.ecode }) ∨
      ((w = 0x00000002 ∨ w = 0x00000006) ∧ t.status.eclass = 1 ∧
        t = { s with status :=
          { s.status.failure t.status.eclass t.status.eidx t.status.ecode with frameOk := false } })

/-- 10_state.md R26: every command word writes the result fields, OK with the rest 0 or an error with a class that is
not 0; a host event that is no write to CMD and does not assert RST leaves all four; after reset they read 0. -/
def Obligations.ResultFieldsWrittenByCommands : Prop :=
  (∀ (w : Word) (s t : State), perform w s = .next t →
      (t.status.ok = true ∧ t.status.NoError) ∨ (t.status.ok = false ∧ ∃ e, t.status.Reports e)) ∧
    (∀ (s t : State) (e : HostEvent) (rest : List HostEvent), s.hostIn = e :: rest →
      (∀ w, e ≠ .write 0x001 w) → e ≠ .rst true → step s = .next t →
        t.status.ok = s.status.ok ∧ t.status.eclass = s.status.eclass ∧ t.status.eidx = s.status.eidx ∧
          t.status.ecode = s.status.ecode) ∧
    State.reset.status.ok = false ∧ State.reset.status.NoError

/-- 10_state.md R20, R33, R44: no command changes the profile, CLS_IN, BERR, the parameters or the host's events and
answer. -/
def Obligations.CommandsKeepHostOperands : Prop :=
  ∀ (w : Word) (s t : State), perform w s = .next t →
    t.cfg = s.cfg ∧ t.prof = s.prof ∧ t.clsIn = s.clsIn ∧ t.status.berr = s.status.berr ∧ t.hostIn = s.hostIn ∧
      t.rstLine = s.rstLine ∧ t.resp = s.resp

/-- 10_state.md R28, R30: no command reads FRAME_OK or TX_READY: from two states that differ only there, every command
ends in states that differ only there. -/
def Obligations.TrainFlagsReadByNoCommand : Prop :=
  ∀ (i : Instr) (s t : State) (frameOk txReady : Bool), exec i s = .next t →
    ∃ frameOk' txReady',
      exec i { s with status := { s.status with frameOk := frameOk, txReady := txReady } } =
        .next { t with status := { t.status with frameOk := frameOk', txReady := txReady' } }

/-! ### Rules about every step -/

/-- 10_state.md R27, R33: while the profile is locked, no step but the assertion of RST unlocks it or changes a profile
register. -/
def Obligations.LockedProfileIsFrozen : Prop :=
  ∀ s t : State, step s = .next t → s.status.locked = true → s.hostIn.head? ≠ some (.rst true) →
    t.status.locked = true ∧ t.prof = s.prof

/-- 10_state.md R31: only the assertion of RST clears BERR, and only an access answered with an error response sets
it. -/
def Obligations.BusErrorFlagIsSticky : Prop :=
  ∀ s t : State, step s = .next t →
    (s.status.berr = true → s.hostIn.head? ≠ some (.rst true) → t.status.berr = true) ∧
    (s.status.berr = false → t.status.berr = true → t.resp = some .writeError ∨ t.resp = some (.readError 0))

/-- 10_state.md R29, R30: BITS_VALID is cleared by RST only and set by DEMOD and DECODE only; TX_READY is cleared by
RST and by host writes to RAW and RAW_LEN only and set by BUILD only. -/
def Obligations.ResultFlagsChangeAsStated : Prop :=
  ∀ (s t : State) (e : HostEvent) (rest : List HostEvent), s.hostIn = e :: rest → step s = .next t →
    (s.status.bitsValid = true → e ≠ .rst true → t.status.bitsValid = true) ∧
    (s.status.bitsValid = false → t.status.bitsValid = true →
      e = .write 0x001 0x00000003 ∨ e = .write 0x001 0x00000006) ∧
    (s.status.txReady = true → t.status.txReady = false →
      e = .rst true ∨ ∃ a v, e = .write a v ∧ (a = 0x005 ∨ 0x100 ≤ a.toNat)) ∧
    (s.status.txReady = false → t.status.txReady = true → e = .write 0x001 0x00000005)

/-- 10_state.md R45, R48, R49, R52: only CLASSIFY writes CLS_OUT, only DEMOD and DECODE write BITS and BITS_LEN, only
BUILD writes TX_REPEAT, apart from the assertion of RST. -/
def Obligations.ResultRegistersHaveOneWriter : Prop :=
  ∀ (s t : State) (e : HostEvent) (rest : List HostEvent), s.hostIn = e :: rest → step s = .next t → e ≠ .rst true →
    (t.clsOut ≠ s.clsOut → ∃ w : Word, e = .write 0x001 w ∧ w.toNat % 16 = 1) ∧
    (t.bits ≠ s.bits ∨ t.bitsLen ≠ s.bitsLen → e = .write 0x001 0x00000003 ∨ e = .write 0x001 0x00000006) ∧
    (t.txRepeat ≠ s.txRepeat → e = .write 0x001 0x00000005)

/-- 10_state.md R20: no step changes the parameters, and 93_implementation_defined.md I11, I12: HOST_BASE and
HOST_BYTE_ORDER are invisible, a step from an instance placed elsewhere ending in the same state placed elsewhere. -/
def Obligations.ParametersAreFixedAndPlacementInvisible : Prop :=
  ∀ s t : State, step s = .next t →
    t.cfg = s.cfg ∧
      ∀ (base : Nat) (order : Vector (Fin 4) 4), step (s.placedAt base order) = .next (t.placedAt base order)

/-- The invariant of reachable states holds after reset, whatever the parameters the spec allows. -/
def Obligations.InvariantHoldsAfterReset : Prop :=
  (∀ c : Config, c.wellFormed = true → (State.resetWith c).Inv) ∧ State.reset.Inv

/-- 10_state.md R28 to R30, R45 to R49, 30_encoding.md R90, 45_profile_and_control.md R159, 60_exceptions.md R170:
every step keeps the invariant: RAW keeps RAW_CAP entries, a locked profile is legal, BITS is 0 above BITS_LEN, only
listed symbol and error codes are held, FRAME_OK implies a train that passes validation and TX_READY a built one. -/
def Obligations.EveryStepKeepsInvariant : Prop := ∀ s t : State, s.Inv → step s = .next t → t.Inv

/-- 70_reset_and_hazards.md R197: in every state of the invariant, FRAME_OK = 1 means that VALIDATE of the current RAW
succeeds. -/
def Obligations.FrameOkMeansValidatePasses : Prop :=
  ∀ s : State, s.Inv → s.status.frameOk = true → exec .validate s = .next { s with status := s.status.success }

/-- 41_validator.md R114, 45_profile_and_control.md R162: a train made by BUILD passes VALIDATE exactly when
SHORT_PULSE lies in the header window and FTR_PULSE in the footer window. -/
def Obligations.BuiltTrainValidatesIffWindowsFit : Prop :=
  ∀ s : State, s.Inv → s.status.txReady = true →
    ((∃ t, exec .validate s = .next t ∧ t.status.ok = true) ↔
      s.prof.headerFits s.prof.short ∧ s.prof.footerFits s.prof.ftrPulse)

/-- 45_profile_and_control.md R162: under a locked round-trip-safe profile, BUILD of values below 2^WIDTH and then
DECODE both succeed and end with the same field values. -/
def Obligations.BuildThenDecodeRoundTrips : Prop :=
  ∀ s : State, s.Inv → s.status.locked = true → s.prof.RoundTripSafe → (∀ n, s.present n = true) →
    (∀ n, (s.field n).toNat < 2 ^ s.prof.width n) →
    ∃ t u, exec .build s = .next t ∧ t.status.ok = true ∧ exec .decode t = .next u ∧ u.status.ok = true ∧
      ∀ n, u.field n = s.field n

/-! ### The register space -/

/-- 20_memory.md R62, R63, 10_state.md R21: an address names a register exactly when it is that register's address in
the map, and a RAW entry only below RAW_CAP; so no register has two addresses and no address two registers. -/
def Obligations.AddressesNameOneRegister : Prop :=
  ∀ c : Config, c.wellFormed = true → ∀ (a : Addr) (r : Reg),
    regAt c a = some r ↔ r.addr = a ∧ ∀ k, r = .raw k → k < c.rawCap

/-- 20_memory.md R62, R63, 93_implementation_defined.md I22: the addresses of the map as listed, the RAW window, and
the unmapped ranges. -/
def Obligations.AddressMapAsListed : Prop :=
  ∀ c : Config,
    regAt c 0x000 = some .id ∧ regAt c 0x001 = some .cmd ∧ regAt c 0x002 = some .status ∧
    regAt c 0x003 = some .clsIn ∧ regAt c 0x004 = some .clsOut ∧ regAt c 0x005 = some .rawLen ∧
    regAt c 0x006 = some .bits ∧ regAt c 0x007 = some .bitsLen ∧ regAt c 0x008 = some .txRepeat ∧
    regAt c 0x010 = some (.field .systemcode) ∧ regAt c 0x011 = some (.field .unitcode) ∧
    regAt c 0x012 = some (.field .id) ∧ regAt c 0x013 = some .fieldPresent ∧
    regAt c 0x020 = some (.prof .frameLen) ∧ regAt c 0x021 = some (.prof .hdrMin) ∧
    regAt c 0x022 = some (.prof .hdrMax) ∧ regAt c 0x023 = some (.prof .ftrMin) ∧
    regAt c 0x024 = some (.prof .ftrMax) ∧ regAt c 0x025 = some (.prof .longThr) ∧
    regAt c 0x026 = some (.prof .firstAdj) ∧ regAt c 0x027 = some (.prof .short) ∧
    regAt c 0x028 = some (.prof .long) ∧ regAt c 0x029 = some (.prof .ftrPulse) ∧
    regAt c 0x02A = some (.prof .repeatCount) ∧ regAt c 0x02B = some (.prof (.fieldSpec .systemcode)) ∧
    regAt c 0x02C = some (.prof (.fieldSpec .unitcode)) ∧ regAt c 0x02D = some (.prof (.fieldSpec .id)) ∧
    ∀ a : Addr,
      (0x009 ≤ a.toNat → a.toNat ≤ 0x00F → regAt c a = none) ∧
      (0x014 ≤ a.toNat → a.toNat ≤ 0x01F → regAt c a = none) ∧
      (0x02E ≤ a.toNat → a.toNat ≤ 0x0FF → regAt c a = none) ∧
      (0x100 ≤ a.toNat → a.toNat < 0x100 + c.rawCap → regAt c a = some (.raw (a.toNat - 0x100))) ∧
      (0x100 + c.rawCap ≤ a.toNat → regAt c a = none)

/-- 20_memory.md R67: a read of a mapped register answers its word and changes nothing else; a read of an unmapped
address is a bus error; CMD reads 0, ID its constant, every other register but STATUS the field of the state that the
commands read (STATUS is `StatusWordLayout`), and reserved bits read 0. That a bus error answers a next state, with
BERR set, is the model's reading, log entry 2. -/
def Obligations.ReadsHaveNoSideEffect : Prop :=
  (∀ (s : State) (a : Addr) (rest : List HostEvent), s.hostIn = .read a :: rest → s.rstLine = false →
      (∀ r, regAt s.cfg a = some r →
        step s = .next { s with hostIn := rest, resp := some (.readData (readReg s r)) }) ∧
      (regAt s.cfg a = none →
        step s = .next { s with
          hostIn := rest, resp := some (.readError 0), status := { s.status with berr := true } })) ∧
    ∀ s : State, readReg s .cmd = 0 ∧ readReg s .id = 0x4F4F4B07 ∧ readReg s .clsIn = s.clsIn ∧
      readReg s .rawLen = s.rawLen ∧ readReg s .bits = s.bits ∧ readReg s .bitsLen = s.bitsLen ∧
      readReg s .txRepeat = s.txRepeat ∧ (∀ n, readReg s (.field n) = s.field n) ∧
      (∀ k, readReg s (.raw k) = s.rawAt k) ∧
      (readReg s .clsOut).toNat = s.clsOut.toNat ∧ (readReg s .fieldPresent).toNat = s.fieldPresent.toNat ∧
      readReg s (.prof .frameLen) = s.prof.frameLen ∧
      readReg s (.prof .hdrMin) = s.prof.hdrMin ∧ readReg s (.prof .hdrMax) = s.prof.hdrMax ∧
      readReg s (.prof .ftrMin) = s.prof.ftrMin ∧ readReg s (.prof .ftrMax) = s.prof.ftrMax ∧
      readReg s (.prof .longThr) = s.prof.longThr ∧ readReg s (.prof .firstAdj) = s.prof.firstAdj ∧
      readReg s (.prof .short) = s.prof.short ∧ readReg s (.prof .long) = s.prof.long ∧
      readReg s (.prof .ftrPulse) = s.prof.ftrPulse ∧ readReg s (.prof .repeatCount) = s.prof.repeatCount ∧
      ∀ n, (readReg s (.prof (.fieldSpec n))).toNat = s.prof.offset n + 256 * s.prof.width n

/-- 10_state.md R25: the layout of STATUS as it reads; a write to it is a bus error, and after reset it reads 0. That
the bus error answers a next state, with BERR set, is the model's reading, log entry 2. -/
def Obligations.StatusWordLayout : Prop :=
  (∀ s : State,
      (readReg s .status).getLsbD 0 = s.status.ok ∧
      (readReg s .status).extractLsb' 1 3 = s.status.eclass ∧
      (readReg s .status).extractLsb' 4 2 = s.status.eidx ∧
      (readReg s .status).extractLsb' 6 2 = 0 ∧
      (readReg s .status).extractLsb' 8 8 = s.status.ecode ∧
      (readReg s .status).getLsbD 16 = s.status.locked ∧
      (readReg s .status).getLsbD 17 = s.status.frameOk ∧
      (readReg s .status).getLsbD 18 = s.status.bitsValid ∧
      (readReg s .status).getLsbD 19 = s.status.txReady ∧
      (readReg s .status).getLsbD 20 = s.status.berr ∧
      (readReg s .status).extractLsb' 21 10 = 0 ∧
      (readReg s .status).getLsbD 31 = false) ∧
    (∀ (s : State) (v : Word), busWrite 0x002 v s = .next (respond .writeError (busError s))) ∧
    readReg State.reset .status = 0x00000000

/-- 20_memory.md R68: the four kinds of bus errors: each is answered with an error response, sets BERR and changes
nothing else; a read's data is 0. That the step then answers a next state is the model's reading, log entry 2. -/
def Obligations.BusErrorsOnlySetBerr : Prop :=
  (∀ (s : State) (a : Addr) (rest : List HostEvent), s.hostIn = .read a :: rest → s.rstLine = false →
      regAt s.cfg a = none →
      step s = .next { s with
        hostIn := rest, resp := some (.readError 0), status := { s.status with berr := true } }) ∧
    ∀ (s : State) (a : Addr) (v : Word) (rest : List HostEvent), s.hostIn = .write a v :: rest → s.rstLine = false →
      (regAt s.cfg a = none ∨ a = 0x000 ∨ a = 0x002 ∨ a = 0x004 ∨ a = 0x006 ∨ a = 0x007 ∨ a = 0x008 ∨
        (0x020 ≤ a.toNat ∧ a.toNat ≤ 0x02D ∧ s.status.locked = true) ∨ (a = 0x005 ∧ s.cfg.rawCap < v.toNat)) →
      step s = .next { s with
        hostIn := rest, resp := some .writeError, status := { s.status with berr := true } }

/-- 20_memory.md R70: what a write that is no bus error does: RAW and RAW_LEN store and clear FRAME_OK and TX_READY,
FIELDn stores and sets its FIELD_PRESENT bit, CMD performs the command, the others store the value only. -/
def Obligations.WritesHaveStatedEffects : Prop :=
  ∀ (s : State) (a : Addr) (v : Word) (rest : List HostEvent), s.hostIn = .write a v :: rest → s.rstLine = false →
    (∀ k, regAt s.cfg a = some (.raw k) →
      step s = .next { s with
        hostIn := rest, resp := some .writeDone, raw := s.raw.set k v
        status := { s.status with frameOk := false, txReady := false } }) ∧
    (a = 0x005 → v.toNat ≤ s.cfg.rawCap →
      step s = .next { s with
        hostIn := rest, resp := some .writeDone, rawLen := v
        status := { s.status with frameOk := false, txReady := false } }) ∧
    (a = 0x010 → step s = .next { s with
      hostIn := rest, resp := some .writeDone, field0 := v, fieldPresent := s.fieldPresent ||| 1 }) ∧
    (a = 0x011 → step s = .next { s with
      hostIn := rest, resp := some .writeDone, field1 := v, fieldPresent := s.fieldPresent ||| 2 }) ∧
    (a = 0x012 → step s = .next { s with
      hostIn := rest, resp := some .writeDone, field2 := v, fieldPresent := s.fieldPresent ||| 4 }) ∧
    (a = 0x013 → step s = .next { s with hostIn := rest, resp := some .writeDone, fieldPresent := v.setWidth 3 }) ∧
    (a = 0x003 → step s = .next { s with hostIn := rest, resp := some .writeDone, clsIn := v }) ∧
    (∀ q, regAt s.cfg a = some (.prof q) → s.status.locked = false →
      step s = .next { s with hostIn := rest, resp := some .writeDone, prof := s.prof.write v q }) ∧
    (a = 0x001 → step s = perform v { s with hostIn := rest, resp := some .writeDone })

/-- 20_memory.md R69, R70: a written profile register reads back its word, without bits 31:16 where it is a FieldSpec,
and every other profile register reads as before. -/
def Obligations.ProfileWritesStoreOneRegister : Prop :=
  ∀ (p : Profile) (v : Word) (q r : ProfReg),
    ((p.write v q).read r).toNat =
      if r = q then (match q with | .fieldSpec _ => v.toNat % 65536 | _ => v.toNat) else (p.read r).toNat

/-- 20_memory.md R69: the reserved bits of FIELD_PRESENT and of the FieldSpec registers read 0, and a write ignores
them without error and stores the other bits. -/
def Obligations.ReservedBitsIgnoreWrites : Prop :=
  (∀ (s : State) (v : Word), ∃ t, busWrite 0x013 v s = .next t ∧ t.resp = some .writeDone ∧
      (readReg t .fieldPresent).toNat = v.toNat % 8) ∧
    (∀ (s : State) (v : Word) (n : FieldId), s.status.locked = false →
      ∃ t, busWrite (Reg.prof (.fieldSpec n)).addr v s = .next t ∧ t.resp = some .writeDone ∧
        (readReg t (.prof (.fieldSpec n))).toNat = v.toNat % 65536) ∧
    ∀ s : State, (readReg s .fieldPresent).toNat < 8 ∧
      ∀ n, (readReg s (.prof (.fieldSpec n))).toNat < 65536

/-- 20_memory.md R72: after a write to a RAW entry, that entry reads the written word and every other entry as
before. -/
def Obligations.RawReadsLatestWrite : Prop :=
  ∀ (s : State) (k j : Nat) (v : Word), s.Inv → k < s.cfg.rawCap → j < s.cfg.rawCap →
    ∃ t, busWrite (Reg.raw k).addr v s = .next t ∧
      ∀ u, u = busRead (Reg.raw j).addr t → u.resp = some (.readData (if j = k then v else s.rawAt j))

/-- 70_reset_and_hazards.md R201: a run that ends with BERR = 1 is treated as faulted. That a bus error does not end the
run is the model's reading, log entry 2, and that no other run is faulted, not even one whose bus error an RST cleared,
is its choice, log entry 15. -/
def Obligations.RunWithBusErrorIsFaulted : Prop := ∀ s : State, s.Faulted ↔ s.status.berr = true

/-! ### Profile derivation -/

/-- 45_profile_and_control.md R156: with the loaded threshold an integer duration is above the register exactly when it
is above the real product baseline × multiplier. -/
def Obligations.LoadedThresholdIsExact : Prop :=
  ∀ (v : Variant) (d : Word), v.profile.longThr.toNat < d.toNat ↔
    v.baseline * v.multiplier.num < d.toNat * v.multiplier.den

/-- 45_profile_and_control.md R156: with the windows loaded from the source's two header forms and two footer forms an
integer duration passes the register comparison exactly when it passes the real one, for a lower bound within the 32-bit
range (above it the clamped bound lets 0xFFFFFFFF pass, log entry 11). The forms: a header window of absolute bounds;
baseline - below to baseline + above; a footer window baseline × factor × {low, high}; fixed length × {9/10, 3/2}. -/
def Obligations.LoadedWindowsAreExact : Prop :=
  ∀ (v : Variant) (d : Word),
    (∀ low high : Nat, v.header = .absolute low high → low ≤ 0xFFFFFFFF →
      (v.profile.headerFits d ↔ low ≤ d.toNat ∧ d.toNat ≤ high)) ∧
    (∀ below above : Nat, v.header = .aroundBaseline below above → v.baseline ≤ 0xFFFFFFFF + below →
      (v.profile.headerFits d ↔ v.baseline ≤ d.toNat + below ∧ d.toNat ≤ v.baseline + above)) ∧
    (∀ f low high : Ratio, v.footer = .multiple f low high →
      v.baseline * (f.num * low.num) ≤ 0xFFFFFFFF * (f.den * low.den) →
      (v.profile.footerFits d ↔
        v.baseline * (f.num * low.num) ≤ d.toNat * (f.den * low.den) ∧
          d.toNat * (f.den * high.den) ≤ v.baseline * (f.num * high.num))) ∧
    ∀ length : Nat, v.footer = .fixedLength length → length * 9 ≤ 0xFFFFFFFF * 10 →
      (v.profile.footerFits d ↔ length * 9 ≤ d.toNat * 10 ∧ d.toNat * 2 ≤ length * 3)
end

