-- ==== Sys2Proof/Laws/State.lean ====
section
/-! SUPPORT. What each named update of the state leaves in each field. -/

namespace Sys2Proof.Machine

variable (s : State)

/-! `complete` -/

@[simp] theorem complete_cfg : (complete s).cfg = s.cfg := rfl
@[simp] theorem complete_hostIn : (complete s).hostIn = s.hostIn := rfl
@[simp] theorem complete_rstLine : (complete s).rstLine = s.rstLine := rfl
@[simp] theorem complete_resp : (complete s).resp = s.resp := rfl
@[simp] theorem complete_status : (complete s).status = { s.status with ok := true, eclass := 0, eidx := 0, ecode := 0 } := rfl
@[simp] theorem complete_prof : (complete s).prof = s.prof := rfl
@[simp] theorem complete_clsIn : (complete s).clsIn = s.clsIn := rfl
@[simp] theorem complete_clsOut : (complete s).clsOut = s.clsOut := rfl
@[simp] theorem complete_rawLen : (complete s).rawLen = s.rawLen := rfl
@[simp] theorem complete_raw : (complete s).raw = s.raw := rfl
@[simp] theorem complete_bits : (complete s).bits = s.bits := rfl
@[simp] theorem complete_bitsLen : (complete s).bitsLen = s.bitsLen := rfl
@[simp] theorem complete_txRepeat : (complete s).txRepeat = s.txRepeat := rfl
@[simp] theorem complete_field0 : (complete s).field0 = s.field0 := rfl
@[simp] theorem complete_field1 : (complete s).field1 = s.field1 := rfl
@[simp] theorem complete_field2 : (complete s).field2 = s.field2 := rfl
@[simp] theorem complete_fieldPresent : (complete s).fieldPresent = s.fieldPresent := rfl

/-! `raise` -/

@[simp] theorem raise_cfg (e : ErrorCode) (n : BitVec 2) : (raise e n s).cfg = s.cfg := rfl
@[simp] theorem raise_hostIn (e : ErrorCode) (n : BitVec 2) : (raise e n s).hostIn = s.hostIn := rfl
@[simp] theorem raise_rstLine (e : ErrorCode) (n : BitVec 2) : (raise e n s).rstLine = s.rstLine := rfl
@[simp] theorem raise_resp (e : ErrorCode) (n : BitVec 2) : (raise e n s).resp = s.resp := rfl
@[simp] theorem raise_status (e : ErrorCode) (n : BitVec 2) : (raise e n s).status = { s.status with ok := false, eclass := e.eclass, eidx := n, ecode := e.ecode } := rfl
@[simp] theorem raise_prof (e : ErrorCode) (n : BitVec 2) : (raise e n s).prof = s.prof := rfl
@[simp] theorem raise_clsIn (e : ErrorCode) (n : BitVec 2) : (raise e n s).clsIn = s.clsIn := rfl
@[simp] theorem raise_clsOut (e : ErrorCode) (n : BitVec 2) : (raise e n s).clsOut = s.clsOut := rfl
@[simp] theorem raise_rawLen (e : ErrorCode) (n : BitVec 2) : (raise e n s).rawLen = s.rawLen := rfl
@[simp] theorem raise_raw (e : ErrorCode) (n : BitVec 2) : (raise e n s).raw = s.raw := rfl
@[simp] theorem raise_bits (e : ErrorCode) (n : BitVec 2) : (raise e n s).bits = s.bits := rfl
@[simp] theorem raise_bitsLen (e : ErrorCode) (n : BitVec 2) : (raise e n s).bitsLen = s.bitsLen := rfl
@[simp] theorem raise_txRepeat (e : ErrorCode) (n : BitVec 2) : (raise e n s).txRepeat = s.txRepeat := rfl
@[simp] theorem raise_field0 (e : ErrorCode) (n : BitVec 2) : (raise e n s).field0 = s.field0 := rfl
@[simp] theorem raise_field1 (e : ErrorCode) (n : BitVec 2) : (raise e n s).field1 = s.field1 := rfl
@[simp] theorem raise_field2 (e : ErrorCode) (n : BitVec 2) : (raise e n s).field2 = s.field2 := rfl
@[simp] theorem raise_fieldPresent (e : ErrorCode) (n : BitVec 2) : (raise e n s).fieldPresent = s.fieldPresent := rfl

/-! `busError` -/

@[simp] theorem busError_cfg : (busError s).cfg = s.cfg := rfl
@[simp] theorem busError_hostIn : (busError s).hostIn = s.hostIn := rfl
@[simp] theorem busError_rstLine : (busError s).rstLine = s.rstLine := rfl
@[simp] theorem busError_resp : (busError s).resp = s.resp := rfl
@[simp] theorem busError_status : (busError s).status = { s.status with berr := true } := rfl
@[simp] theorem busError_prof : (busError s).prof = s.prof := rfl
@[simp] theorem busError_clsIn : (busError s).clsIn = s.clsIn := rfl
@[simp] theorem busError_clsOut : (busError s).clsOut = s.clsOut := rfl
@[simp] theorem busError_rawLen : (busError s).rawLen = s.rawLen := rfl
@[simp] theorem busError_raw : (busError s).raw = s.raw := rfl
@[simp] theorem busError_bits : (busError s).bits = s.bits := rfl
@[simp] theorem busError_bitsLen : (busError s).bitsLen = s.bitsLen := rfl
@[simp] theorem busError_txRepeat : (busError s).txRepeat = s.txRepeat := rfl
@[simp] theorem busError_field0 : (busError s).field0 = s.field0 := rfl
@[simp] theorem busError_field1 : (busError s).field1 = s.field1 := rfl
@[simp] theorem busError_field2 : (busError s).field2 = s.field2 := rfl
@[simp] theorem busError_fieldPresent : (busError s).fieldPresent = s.fieldPresent := rfl

/-! `setLocked` -/

@[simp] theorem setLocked_cfg : (setLocked s).cfg = s.cfg := rfl
@[simp] theorem setLocked_hostIn : (setLocked s).hostIn = s.hostIn := rfl
@[simp] theorem setLocked_rstLine : (setLocked s).rstLine = s.rstLine := rfl
@[simp] theorem setLocked_resp : (setLocked s).resp = s.resp := rfl
@[simp] theorem setLocked_status : (setLocked s).status = { s.status with locked := true } := rfl
@[simp] theorem setLocked_prof : (setLocked s).prof = s.prof := rfl
@[simp] theorem setLocked_clsIn : (setLocked s).clsIn = s.clsIn := rfl
@[simp] theorem setLocked_clsOut : (setLocked s).clsOut = s.clsOut := rfl
@[simp] theorem setLocked_rawLen : (setLocked s).rawLen = s.rawLen := rfl
@[simp] theorem setLocked_raw : (setLocked s).raw = s.raw := rfl
@[simp] theorem setLocked_bits : (setLocked s).bits = s.bits := rfl
@[simp] theorem setLocked_bitsLen : (setLocked s).bitsLen = s.bitsLen := rfl
@[simp] theorem setLocked_txRepeat : (setLocked s).txRepeat = s.txRepeat := rfl
@[simp] theorem setLocked_field0 : (setLocked s).field0 = s.field0 := rfl
@[simp] theorem setLocked_field1 : (setLocked s).field1 = s.field1 := rfl
@[simp] theorem setLocked_field2 : (setLocked s).field2 = s.field2 := rfl
@[simp] theorem setLocked_fieldPresent : (setLocked s).fieldPresent = s.fieldPresent := rfl

/-! `setFrameOk` -/

@[simp] theorem setFrameOk_cfg (b : Bool) : (setFrameOk b s).cfg = s.cfg := rfl
@[simp] theorem setFrameOk_hostIn (b : Bool) : (setFrameOk b s).hostIn = s.hostIn := rfl
@[simp] theorem setFrameOk_rstLine (b : Bool) : (setFrameOk b s).rstLine = s.rstLine := rfl
@[simp] theorem setFrameOk_resp (b : Bool) : (setFrameOk b s).resp = s.resp := rfl
@[simp] theorem setFrameOk_status (b : Bool) : (setFrameOk b s).status = { s.status with frameOk := b } := rfl
@[simp] theorem setFrameOk_prof (b : Bool) : (setFrameOk b s).prof = s.prof := rfl
@[simp] theorem setFrameOk_clsIn (b : Bool) : (setFrameOk b s).clsIn = s.clsIn := rfl
@[simp] theorem setFrameOk_clsOut (b : Bool) : (setFrameOk b s).clsOut = s.clsOut := rfl
@[simp] theorem setFrameOk_rawLen (b : Bool) : (setFrameOk b s).rawLen = s.rawLen := rfl
@[simp] theorem setFrameOk_raw (b : Bool) : (setFrameOk b s).raw = s.raw := rfl
@[simp] theorem setFrameOk_bits (b : Bool) : (setFrameOk b s).bits = s.bits := rfl
@[simp] theorem setFrameOk_bitsLen (b : Bool) : (setFrameOk b s).bitsLen = s.bitsLen := rfl
@[simp] theorem setFrameOk_txRepeat (b : Bool) : (setFrameOk b s).txRepeat = s.txRepeat := rfl
@[simp] theorem setFrameOk_field0 (b : Bool) : (setFrameOk b s).field0 = s.field0 := rfl
@[simp] theorem setFrameOk_field1 (b : Bool) : (setFrameOk b s).field1 = s.field1 := rfl
@[simp] theorem setFrameOk_field2 (b : Bool) : (setFrameOk b s).field2 = s.field2 := rfl
@[simp] theorem setFrameOk_fieldPresent (b : Bool) : (setFrameOk b s).fieldPresent = s.fieldPresent := rfl

/-! `clearTrainFlags` -/

@[simp] theorem clearTrainFlags_cfg : (clearTrainFlags s).cfg = s.cfg := rfl
@[simp] theorem clearTrainFlags_hostIn : (clearTrainFlags s).hostIn = s.hostIn := rfl
@[simp] theorem clearTrainFlags_rstLine : (clearTrainFlags s).rstLine = s.rstLine := rfl
@[simp] theorem clearTrainFlags_resp : (clearTrainFlags s).resp = s.resp := rfl
@[simp] theorem clearTrainFlags_status : (clearTrainFlags s).status = { s.status with frameOk := false, txReady := false } := rfl
@[simp] theorem clearTrainFlags_prof : (clearTrainFlags s).prof = s.prof := rfl
@[simp] theorem clearTrainFlags_clsIn : (clearTrainFlags s).clsIn = s.clsIn := rfl
@[simp] theorem clearTrainFlags_clsOut : (clearTrainFlags s).clsOut = s.clsOut := rfl
@[simp] theorem clearTrainFlags_rawLen : (clearTrainFlags s).rawLen = s.rawLen := rfl
@[simp] theorem clearTrainFlags_raw : (clearTrainFlags s).raw = s.raw := rfl
@[simp] theorem clearTrainFlags_bits : (clearTrainFlags s).bits = s.bits := rfl
@[simp] theorem clearTrainFlags_bitsLen : (clearTrainFlags s).bitsLen = s.bitsLen := rfl
@[simp] theorem clearTrainFlags_txRepeat : (clearTrainFlags s).txRepeat = s.txRepeat := rfl
@[simp] theorem clearTrainFlags_field0 : (clearTrainFlags s).field0 = s.field0 := rfl
@[simp] theorem clearTrainFlags_field1 : (clearTrainFlags s).field1 = s.field1 := rfl
@[simp] theorem clearTrainFlags_field2 : (clearTrainFlags s).field2 = s.field2 := rfl
@[simp] theorem clearTrainFlags_fieldPresent : (clearTrainFlags s).fieldPresent = s.fieldPresent := rfl

/-! `writeRaw` -/

@[simp] theorem writeRaw_cfg (k : Nat) (v : Word) : (writeRaw k v s).cfg = s.cfg := rfl
@[simp] theorem writeRaw_hostIn (k : Nat) (v : Word) : (writeRaw k v s).hostIn = s.hostIn := rfl
@[simp] theorem writeRaw_rstLine (k : Nat) (v : Word) : (writeRaw k v s).rstLine = s.rstLine := rfl
@[simp] theorem writeRaw_resp (k : Nat) (v : Word) : (writeRaw k v s).resp = s.resp := rfl
@[simp] theorem writeRaw_status (k : Nat) (v : Word) : (writeRaw k v s).status = s.status := rfl
@[simp] theorem writeRaw_prof (k : Nat) (v : Word) : (writeRaw k v s).prof = s.prof := rfl
@[simp] theorem writeRaw_clsIn (k : Nat) (v : Word) : (writeRaw k v s).clsIn = s.clsIn := rfl
@[simp] theorem writeRaw_clsOut (k : Nat) (v : Word) : (writeRaw k v s).clsOut = s.clsOut := rfl
@[simp] theorem writeRaw_rawLen (k : Nat) (v : Word) : (writeRaw k v s).rawLen = s.rawLen := rfl
@[simp] theorem writeRaw_raw (k : Nat) (v : Word) : (writeRaw k v s).raw = s.raw.set k v := rfl
@[simp] theorem writeRaw_bits (k : Nat) (v : Word) : (writeRaw k v s).bits = s.bits := rfl
@[simp] theorem writeRaw_bitsLen (k : Nat) (v : Word) : (writeRaw k v s).bitsLen = s.bitsLen := rfl
@[simp] theorem writeRaw_txRepeat (k : Nat) (v : Word) : (writeRaw k v s).txRepeat = s.txRepeat := rfl
@[simp] theorem writeRaw_field0 (k : Nat) (v : Word) : (writeRaw k v s).field0 = s.field0 := rfl
@[simp] theorem writeRaw_field1 (k : Nat) (v : Word) : (writeRaw k v s).field1 = s.field1 := rfl
@[simp] theorem writeRaw_field2 (k : Nat) (v : Word) : (writeRaw k v s).field2 = s.field2 := rfl
@[simp] theorem writeRaw_fieldPresent (k : Nat) (v : Word) : (writeRaw k v s).fieldPresent = s.fieldPresent := rfl

/-! `writeField` -/

@[simp] theorem writeField_cfg (n : FieldId) (v : Word) : (writeField n v s).cfg = s.cfg := by cases n <;> rfl
@[simp] theorem writeField_hostIn (n : FieldId) (v : Word) : (writeField n v s).hostIn = s.hostIn := by cases n <;> rfl
@[simp] theorem writeField_rstLine (n : FieldId) (v : Word) : (writeField n v s).rstLine = s.rstLine := by cases n <;> rfl
@[simp] theorem writeField_resp (n : FieldId) (v : Word) : (writeField n v s).resp = s.resp := by cases n <;> rfl
@[simp] theorem writeField_status (n : FieldId) (v : Word) : (writeField n v s).status = s.status := by cases n <;> rfl
@[simp] theorem writeField_prof (n : FieldId) (v : Word) : (writeField n v s).prof = s.prof := by cases n <;> rfl
@[simp] theorem writeField_clsIn (n : FieldId) (v : Word) : (writeField n v s).clsIn = s.clsIn := by cases n <;> rfl
@[simp] theorem writeField_clsOut (n : FieldId) (v : Word) : (writeField n v s).clsOut = s.clsOut := by cases n <;> rfl
@[simp] theorem writeField_rawLen (n : FieldId) (v : Word) : (writeField n v s).rawLen = s.rawLen := by cases n <;> rfl
@[simp] theorem writeField_raw (n : FieldId) (v : Word) : (writeField n v s).raw = s.raw := by cases n <;> rfl
@[simp] theorem writeField_bits (n : FieldId) (v : Word) : (writeField n v s).bits = s.bits := by cases n <;> rfl
@[simp] theorem writeField_bitsLen (n : FieldId) (v : Word) : (writeField n v s).bitsLen = s.bitsLen := by cases n <;> rfl
@[simp] theorem writeField_txRepeat (n : FieldId) (v : Word) : (writeField n v s).txRepeat = s.txRepeat := by cases n <;> rfl
@[simp] theorem writeField_field0 (n : FieldId) (v : Word) : (writeField n v s).field0 = if n = .systemcode then v else s.field0 := by cases n <;> rfl
@[simp] theorem writeField_field1 (n : FieldId) (v : Word) : (writeField n v s).field1 = if n = .unitcode then v else s.field1 := by cases n <;> rfl
@[simp] theorem writeField_field2 (n : FieldId) (v : Word) : (writeField n v s).field2 = if n = .id then v else s.field2 := by cases n <;> rfl
@[simp] theorem writeField_fieldPresent (n : FieldId) (v : Word) : (writeField n v s).fieldPresent = s.fieldPresent := by cases n <;> rfl

/-! `markPresent` -/

@[simp] theorem markPresent_cfg (n : FieldId) : (markPresent n s).cfg = s.cfg := rfl
@[simp] theorem markPresent_hostIn (n : FieldId) : (markPresent n s).hostIn = s.hostIn := rfl
@[simp] theorem markPresent_rstLine (n : FieldId) : (markPresent n s).rstLine = s.rstLine := rfl
@[simp] theorem markPresent_resp (n : FieldId) : (markPresent n s).resp = s.resp := rfl
@[simp] theorem markPresent_status (n : FieldId) : (markPresent n s).status = s.status := rfl
@[simp] theorem markPresent_prof (n : FieldId) : (markPresent n s).prof = s.prof := rfl
@[simp] theorem markPresent_clsIn (n : FieldId) : (markPresent n s).clsIn = s.clsIn := rfl
@[simp] theorem markPresent_clsOut (n : FieldId) : (markPresent n s).clsOut = s.clsOut := rfl
@[simp] theorem markPresent_rawLen (n : FieldId) : (markPresent n s).rawLen = s.rawLen := rfl
@[simp] theorem markPresent_raw (n : FieldId) : (markPresent n s).raw = s.raw := rfl
@[simp] theorem markPresent_bits (n : FieldId) : (markPresent n s).bits = s.bits := rfl
@[simp] theorem markPresent_bitsLen (n : FieldId) : (markPresent n s).bitsLen = s.bitsLen := rfl
@[simp] theorem markPresent_txRepeat (n : FieldId) : (markPresent n s).txRepeat = s.txRepeat := rfl
@[simp] theorem markPresent_field0 (n : FieldId) : (markPresent n s).field0 = s.field0 := rfl
@[simp] theorem markPresent_field1 (n : FieldId) : (markPresent n s).field1 = s.field1 := rfl
@[simp] theorem markPresent_field2 (n : FieldId) : (markPresent n s).field2 = s.field2 := rfl
@[simp] theorem markPresent_fieldPresent (n : FieldId) : (markPresent n s).fieldPresent = s.fieldPresent ||| BitVec.ofNat 3 (2 ^ n.index) := rfl

/-! `storeSymbol` -/

@[simp] theorem storeSymbol_cfg (y : Symbol) : (storeSymbol y s).cfg = s.cfg := rfl
@[simp] theorem storeSymbol_hostIn (y : Symbol) : (storeSymbol y s).hostIn = s.hostIn := rfl
@[simp] theorem storeSymbol_rstLine (y : Symbol) : (storeSymbol y s).rstLine = s.rstLine := rfl
@[simp] theorem storeSymbol_resp (y : Symbol) : (storeSymbol y s).resp = s.resp := rfl
@[simp] theorem storeSymbol_status (y : Symbol) : (storeSymbol y s).status = s.status := rfl
@[simp] theorem storeSymbol_prof (y : Symbol) : (storeSymbol y s).prof = s.prof := rfl
@[simp] theorem storeSymbol_clsIn (y : Symbol) : (storeSymbol y s).clsIn = s.clsIn := rfl
@[simp] theorem storeSymbol_clsOut (y : Symbol) : (storeSymbol y s).clsOut = y.code := rfl
@[simp] theorem storeSymbol_rawLen (y : Symbol) : (storeSymbol y s).rawLen = s.rawLen := rfl
@[simp] theorem storeSymbol_raw (y : Symbol) : (storeSymbol y s).raw = s.raw := rfl
@[simp] theorem storeSymbol_bits (y : Symbol) : (storeSymbol y s).bits = s.bits := rfl
@[simp] theorem storeSymbol_bitsLen (y : Symbol) : (storeSymbol y s).bitsLen = s.bitsLen := rfl
@[simp] theorem storeSymbol_txRepeat (y : Symbol) : (storeSymbol y s).txRepeat = s.txRepeat := rfl
@[simp] theorem storeSymbol_field0 (y : Symbol) : (storeSymbol y s).field0 = s.field0 := rfl
@[simp] theorem storeSymbol_field1 (y : Symbol) : (storeSymbol y s).field1 = s.field1 := rfl
@[simp] theorem storeSymbol_field2 (y : Symbol) : (storeSymbol y s).field2 = s.field2 := rfl
@[simp] theorem storeSymbol_fieldPresent (y : Symbol) : (storeSymbol y s).fieldPresent = s.fieldPresent := rfl

/-! `storeVector` -/

@[simp] theorem storeVector_cfg (bv : List Bool) : (storeVector bv s).cfg = s.cfg := rfl
@[simp] theorem storeVector_hostIn (bv : List Bool) : (storeVector bv s).hostIn = s.hostIn := rfl
@[simp] theorem storeVector_rstLine (bv : List Bool) : (storeVector bv s).rstLine = s.rstLine := rfl
@[simp] theorem storeVector_resp (bv : List Bool) : (storeVector bv s).resp = s.resp := rfl
@[simp] theorem storeVector_status (bv : List Bool) : (storeVector bv s).status = { s.status with bitsValid := true } := rfl
@[simp] theorem storeVector_prof (bv : List Bool) : (storeVector bv s).prof = s.prof := rfl
@[simp] theorem storeVector_clsIn (bv : List Bool) : (storeVector bv s).clsIn = s.clsIn := rfl
@[simp] theorem storeVector_clsOut (bv : List Bool) : (storeVector bv s).clsOut = s.clsOut := rfl
@[simp] theorem storeVector_rawLen (bv : List Bool) : (storeVector bv s).rawLen = s.rawLen := rfl
@[simp] theorem storeVector_raw (bv : List Bool) : (storeVector bv s).raw = s.raw := rfl
@[simp] theorem storeVector_bits (bv : List Bool) : (storeVector bv s).bits = BitVec.ofNat 32 (packBits bv) := rfl
@[simp] theorem storeVector_bitsLen (bv : List Bool) : (storeVector bv s).bitsLen = BitVec.ofNat 32 bv.length := rfl
@[simp] theorem storeVector_txRepeat (bv : List Bool) : (storeVector bv s).txRepeat = s.txRepeat := rfl
@[simp] theorem storeVector_field0 (bv : List Bool) : (storeVector bv s).field0 = s.field0 := rfl
@[simp] theorem storeVector_field1 (bv : List Bool) : (storeVector bv s).field1 = s.field1 := rfl
@[simp] theorem storeVector_field2 (bv : List Bool) : (storeVector bv s).field2 = s.field2 := rfl
@[simp] theorem storeVector_fieldPresent (bv : List Bool) : (storeVector bv s).fieldPresent = s.fieldPresent := rfl

/-! `storeMessage` -/

@[simp] theorem storeMessage_cfg (value : FieldId → Nat) : (storeMessage value s).cfg = s.cfg := rfl
@[simp] theorem storeMessage_hostIn (value : FieldId → Nat) : (storeMessage value s).hostIn = s.hostIn := rfl
@[simp] theorem storeMessage_rstLine (value : FieldId → Nat) : (storeMessage value s).rstLine = s.rstLine := rfl
@[simp] theorem storeMessage_resp (value : FieldId → Nat) : (storeMessage value s).resp = s.resp := rfl
@[simp] theorem storeMessage_status (value : FieldId → Nat) : (storeMessage value s).status = s.status := rfl
@[simp] theorem storeMessage_prof (value : FieldId → Nat) : (storeMessage value s).prof = s.prof := rfl
@[simp] theorem storeMessage_clsIn (value : FieldId → Nat) : (storeMessage value s).clsIn = s.clsIn := rfl
@[simp] theorem storeMessage_clsOut (value : FieldId → Nat) : (storeMessage value s).clsOut = s.clsOut := rfl
@[simp] theorem storeMessage_rawLen (value : FieldId → Nat) : (storeMessage value s).rawLen = s.rawLen := rfl
@[simp] theorem storeMessage_raw (value : FieldId → Nat) : (storeMessage value s).raw = s.raw := rfl
@[simp] theorem storeMessage_bits (value : FieldId → Nat) : (storeMessage value s).bits = s.bits := rfl
@[simp] theorem storeMessage_bitsLen (value : FieldId → Nat) : (storeMessage value s).bitsLen = s.bitsLen := rfl
@[simp] theorem storeMessage_txRepeat (value : FieldId → Nat) : (storeMessage value s).txRepeat = s.txRepeat := rfl
@[simp] theorem storeMessage_field0 (value : FieldId → Nat) : (storeMessage value s).field0 = BitVec.ofNat 32 (value .systemcode) := rfl
@[simp] theorem storeMessage_field1 (value : FieldId → Nat) : (storeMessage value s).field1 = BitVec.ofNat 32 (value .unitcode) := rfl
@[simp] theorem storeMessage_field2 (value : FieldId → Nat) : (storeMessage value s).field2 = BitVec.ofNat 32 (value .id) := rfl
@[simp] theorem storeMessage_fieldPresent (value : FieldId → Nat) : (storeMessage value s).fieldPresent = 0b111 := rfl

/-! `storeTrain` -/

@[simp] theorem storeTrain_cfg (train : List Word) : (storeTrain train s).cfg = s.cfg := rfl
@[simp] theorem storeTrain_hostIn (train : List Word) : (storeTrain train s).hostIn = s.hostIn := rfl
@[simp] theorem storeTrain_rstLine (train : List Word) : (storeTrain train s).rstLine = s.rstLine := rfl
@[simp] theorem storeTrain_resp (train : List Word) : (storeTrain train s).resp = s.resp := rfl
@[simp] theorem storeTrain_status (train : List Word) : (storeTrain train s).status = { s.status with txReady := true, frameOk := false } := rfl
@[simp] theorem storeTrain_prof (train : List Word) : (storeTrain train s).prof = s.prof := rfl
@[simp] theorem storeTrain_clsIn (train : List Word) : (storeTrain train s).clsIn = s.clsIn := rfl
@[simp] theorem storeTrain_clsOut (train : List Word) : (storeTrain train s).clsOut = s.clsOut := rfl
@[simp] theorem storeTrain_rawLen (train : List Word) : (storeTrain train s).rawLen = s.prof.frameLen := rfl
@[simp] theorem storeTrain_raw (train : List Word) : (storeTrain train s).raw = overwrite s.raw train := rfl
@[simp] theorem storeTrain_bits (train : List Word) : (storeTrain train s).bits = s.bits := rfl
@[simp] theorem storeTrain_bitsLen (train : List Word) : (storeTrain train s).bitsLen = s.bitsLen := rfl
@[simp] theorem storeTrain_txRepeat (train : List Word) : (storeTrain train s).txRepeat = s.prof.repeatCount := rfl
@[simp] theorem storeTrain_field0 (train : List Word) : (storeTrain train s).field0 = s.field0 := rfl
@[simp] theorem storeTrain_field1 (train : List Word) : (storeTrain train s).field1 = s.field1 := rfl
@[simp] theorem storeTrain_field2 (train : List Word) : (storeTrain train s).field2 = s.field2 := rfl
@[simp] theorem storeTrain_fieldPresent (train : List Word) : (storeTrain train s).fieldPresent = s.fieldPresent := rfl

/-! `respond` -/

@[simp] theorem respond_cfg (r : BusResponse) : (respond r s).cfg = s.cfg := rfl
@[simp] theorem respond_hostIn (r : BusResponse) : (respond r s).hostIn = s.hostIn := rfl
@[simp] theorem respond_rstLine (r : BusResponse) : (respond r s).rstLine = s.rstLine := rfl
@[simp] theorem respond_resp (r : BusResponse) : (respond r s).resp = some r := rfl
@[simp] theorem respond_status (r : BusResponse) : (respond r s).status = s.status := rfl
@[simp] theorem respond_prof (r : BusResponse) : (respond r s).prof = s.prof := rfl
@[simp] theorem respond_clsIn (r : BusResponse) : (respond r s).clsIn = s.clsIn := rfl
@[simp] theorem respond_clsOut (r : BusResponse) : (respond r s).clsOut = s.clsOut := rfl
@[simp] theorem respond_rawLen (r : BusResponse) : (respond r s).rawLen = s.rawLen := rfl
@[simp] theorem respond_raw (r : BusResponse) : (respond r s).raw = s.raw := rfl
@[simp] theorem respond_bits (r : BusResponse) : (respond r s).bits = s.bits := rfl
@[simp] theorem respond_bitsLen (r : BusResponse) : (respond r s).bitsLen = s.bitsLen := rfl
@[simp] theorem respond_txRepeat (r : BusResponse) : (respond r s).txRepeat = s.txRepeat := rfl
@[simp] theorem respond_field0 (r : BusResponse) : (respond r s).field0 = s.field0 := rfl
@[simp] theorem respond_field1 (r : BusResponse) : (respond r s).field1 = s.field1 := rfl
@[simp] theorem respond_field2 (r : BusResponse) : (respond r s).field2 = s.field2 := rfl
@[simp] theorem respond_fieldPresent (r : BusResponse) : (respond r s).fieldPresent = s.fieldPresent := rfl

/-! `dropEvent` -/

@[simp] theorem dropEvent_cfg : (s.dropEvent).cfg = s.cfg := rfl
@[simp] theorem dropEvent_hostIn : (s.dropEvent).hostIn = s.hostIn.tail := rfl
@[simp] theorem dropEvent_rstLine : (s.dropEvent).rstLine = s.rstLine := rfl
@[simp] theorem dropEvent_resp : (s.dropEvent).resp = s.resp := rfl
@[simp] theorem dropEvent_status : (s.dropEvent).status = s.status := rfl
@[simp] theorem dropEvent_prof : (s.dropEvent).prof = s.prof := rfl
@[simp] theorem dropEvent_clsIn : (s.dropEvent).clsIn = s.clsIn := rfl
@[simp] theorem dropEvent_clsOut : (s.dropEvent).clsOut = s.clsOut := rfl
@[simp] theorem dropEvent_rawLen : (s.dropEvent).rawLen = s.rawLen := rfl
@[simp] theorem dropEvent_raw : (s.dropEvent).raw = s.raw := rfl
@[simp] theorem dropEvent_bits : (s.dropEvent).bits = s.bits := rfl
@[simp] theorem dropEvent_bitsLen : (s.dropEvent).bitsLen = s.bitsLen := rfl
@[simp] theorem dropEvent_txRepeat : (s.dropEvent).txRepeat = s.txRepeat := rfl
@[simp] theorem dropEvent_field0 : (s.dropEvent).field0 = s.field0 := rfl
@[simp] theorem dropEvent_field1 : (s.dropEvent).field1 = s.field1 := rfl
@[simp] theorem dropEvent_field2 : (s.dropEvent).field2 = s.field2 := rfl
@[simp] theorem dropEvent_fieldPresent : (s.dropEvent).fieldPresent = s.fieldPresent := rfl

/-! `ignoreAccess` -/

@[simp] theorem ignoreAccess_cfg : (ignoreAccess s).cfg = s.cfg := rfl
@[simp] theorem ignoreAccess_hostIn : (ignoreAccess s).hostIn = s.hostIn := rfl
@[simp] theorem ignoreAccess_rstLine : (ignoreAccess s).rstLine = s.rstLine := rfl
@[simp] theorem ignoreAccess_resp : (ignoreAccess s).resp = none := rfl
@[simp] theorem ignoreAccess_status : (ignoreAccess s).status = s.status := rfl
@[simp] theorem ignoreAccess_prof : (ignoreAccess s).prof = s.prof := rfl
@[simp] theorem ignoreAccess_clsIn : (ignoreAccess s).clsIn = s.clsIn := rfl
@[simp] theorem ignoreAccess_clsOut : (ignoreAccess s).clsOut = s.clsOut := rfl
@[simp] theorem ignoreAccess_rawLen : (ignoreAccess s).rawLen = s.rawLen := rfl
@[simp] theorem ignoreAccess_raw : (ignoreAccess s).raw = s.raw := rfl
@[simp] theorem ignoreAccess_bits : (ignoreAccess s).bits = s.bits := rfl
@[simp] theorem ignoreAccess_bitsLen : (ignoreAccess s).bitsLen = s.bitsLen := rfl
@[simp] theorem ignoreAccess_txRepeat : (ignoreAccess s).txRepeat = s.txRepeat := rfl
@[simp] theorem ignoreAccess_field0 : (ignoreAccess s).field0 = s.field0 := rfl
@[simp] theorem ignoreAccess_field1 : (ignoreAccess s).field1 = s.field1 := rfl
@[simp] theorem ignoreAccess_field2 : (ignoreAccess s).field2 = s.field2 := rfl
@[simp] theorem ignoreAccess_fieldPresent : (ignoreAccess s).fieldPresent = s.fieldPresent := rfl

/-! `releaseRst` -/

@[simp] theorem releaseRst_cfg : (releaseRst s).cfg = s.cfg := rfl
@[simp] theorem releaseRst_hostIn : (releaseRst s).hostIn = s.hostIn := rfl
@[simp] theorem releaseRst_rstLine : (releaseRst s).rstLine = false := rfl
@[simp] theorem releaseRst_resp : (releaseRst s).resp = none := rfl
@[simp] theorem releaseRst_status : (releaseRst s).status = s.status := rfl
@[simp] theorem releaseRst_prof : (releaseRst s).prof = s.prof := rfl
@[simp] theorem releaseRst_clsIn : (releaseRst s).clsIn = s.clsIn := rfl
@[simp] theorem releaseRst_clsOut : (releaseRst s).clsOut = s.clsOut := rfl
@[simp] theorem releaseRst_rawLen : (releaseRst s).rawLen = s.rawLen := rfl
@[simp] theorem releaseRst_raw : (releaseRst s).raw = s.raw := rfl
@[simp] theorem releaseRst_bits : (releaseRst s).bits = s.bits := rfl
@[simp] theorem releaseRst_bitsLen : (releaseRst s).bitsLen = s.bitsLen := rfl
@[simp] theorem releaseRst_txRepeat : (releaseRst s).txRepeat = s.txRepeat := rfl
@[simp] theorem releaseRst_field0 : (releaseRst s).field0 = s.field0 := rfl
@[simp] theorem releaseRst_field1 : (releaseRst s).field1 = s.field1 := rfl
@[simp] theorem releaseRst_field2 : (releaseRst s).field2 = s.field2 := rfl
@[simp] theorem releaseRst_fieldPresent : (releaseRst s).fieldPresent = s.fieldPresent := rfl

/-! `assertRst` -/

@[simp] theorem assertRst_cfg : (assertRst s).cfg = s.cfg := rfl
@[simp] theorem assertRst_hostIn : (assertRst s).hostIn = s.hostIn := rfl
@[simp] theorem assertRst_rstLine : (assertRst s).rstLine = true := rfl
@[simp] theorem assertRst_resp : (assertRst s).resp = none := rfl
@[simp] theorem assertRst_status : (assertRst s).status = .reset := rfl
@[simp] theorem assertRst_prof : (assertRst s).prof = .reset := rfl
@[simp] theorem assertRst_clsIn : (assertRst s).clsIn = 0 := rfl
@[simp] theorem assertRst_clsOut : (assertRst s).clsOut = 0 := rfl
@[simp] theorem assertRst_rawLen : (assertRst s).rawLen = 0 := rfl
@[simp] theorem assertRst_raw : (assertRst s).raw = List.replicate s.cfg.rawCap 0 := rfl
@[simp] theorem assertRst_bits : (assertRst s).bits = 0 := rfl
@[simp] theorem assertRst_bitsLen : (assertRst s).bitsLen = 0 := rfl
@[simp] theorem assertRst_txRepeat : (assertRst s).txRepeat = 0 := rfl
@[simp] theorem assertRst_field0 : (assertRst s).field0 = 0 := rfl
@[simp] theorem assertRst_field1 : (assertRst s).field1 = 0 := rfl
@[simp] theorem assertRst_field2 : (assertRst s).field2 = 0 := rfl
@[simp] theorem assertRst_fieldPresent : (assertRst s).fieldPresent = 0 := rfl

end Sys2Proof.Machine
end

