-- ==== Sys2Proof/Laws/Train.lean ====
section
/-! SUPPORT. Trains: writing one over RAW, and where the builder puts long and short pulses. -/

namespace Sys2Proof.Machine

@[simp] theorem overwrite_length (old new : List Word) : (overwrite old new).length = old.length := by
  induction old generalizing new with
  | nil => cases new <;> rfl
  | cons a old ih => cases new <;> simp [overwrite, ih]

/-- Entry k after a train is written over a buffer: the train's within both, else the old one (44_builder.md R148). -/
theorem overwrite_getD (old new : List Word) (k : Nat) :
    (overwrite old new).getD k 0 = if k < new.length ∧ k < old.length then new.getD k 0 else old.getD k 0 := by
  induction old generalizing new k with
  | nil => cases new <;> simp [overwrite]
  | cons a old ih =>
    cases new with
    | nil => simp [overwrite]
    | cons b new =>
      cases k with
      | zero => simp [overwrite]
      | succ k => simpa [overwrite] using ih new k

@[simp] theorem zeroTrain_length (p : Profile) : (zeroTrain p).length = p.frameLen.toNat := by simp [zeroTrain]

@[simp] theorem setOnePair_length (p : Profile) (q : Nat) (train : List Word) :
    (setOnePair p q train).length = train.length := by simp [setOnePair]

@[simp] theorem setOneBits_length (p : Profile) (v o w count : Nat) (train : List Word) :
    (setOneBits p v o w count train).length = train.length := by
  induction count with
  | zero => rfl
  | succ count ih => by_cases h : v.testBit (w - 1 - count) = true <;> simp [setOneBits, h, ih]

@[simp] theorem placeField_length (s : State) (n : FieldId) (train : List Word) :
    (placeField s n train).length = train.length := by simp [placeField]

/-- A built train has FRAME_LEN pulses (44_builder.md R150). -/
@[simp] theorem builtTrain_length (s : State) : (builtTrain s).length = s.prof.frameLen.toNat := by simp [builtTrain]

/-- Entry k of a list with entry i set. -/
theorem getD_set (l : List Word) (i k : Nat) (v : Word) :
    (l.set i v).getD k 0 = if k = i ∧ i < l.length then v else l.getD k 0 := by
  by_cases hi : i = k
  · subst hi
    by_cases h : i < l.length <;> simp [List.getD_eq_getElem?_getD, h]
  · have hk : k ≠ i := fun h => hi h.symm
    simp [List.getD_eq_getElem?_getD, hi, hk]

/-- Entry k of the zero train (44_builder.md R144, R145). -/
theorem zeroTrain_getD (p : Profile) (k : Nat) (h : k < p.frameLen.toNat) :
    (zeroTrain p).getD k 0 = if k = 0 ∨ k % 2 = 1 then p.short else p.long := by
  simp [zeroTrain, List.getD_eq_getElem?_getD, h]

/-- The entries of the one-bits of a field: the two pulses of pair q are overwritten exactly when q is one of the
`count` positions placed so far and its bit is set (44_builder.md R146). -/
theorem setOneBits_getD (p : Profile) (v o w count : Nat) (train : List Word) (k : Nat)
    (hfit : 2 * (o + count) < train.length) :
    (setOneBits p v o w count train).getD k 0 =
      if 1 ≤ k ∧ o ≤ (k - 1) / 2 ∧ (k - 1) / 2 < o + count ∧ v.testBit (w - 1 - ((k - 1) / 2 - o)) = true then
        (if k % 2 = 1 then p.long else p.short)
      else train.getD k 0 := by
  induction count with
  | zero =>
    have h : ¬ (1 ≤ k ∧ o ≤ (k - 1) / 2 ∧ (k - 1) / 2 < o + 0 ∧ v.testBit (w - 1 - ((k - 1) / 2 - o)) = true) := by
      rintro ⟨-, h1, h2, -⟩
      omega
    rw [if_neg h, setOneBits]
  | succ count ih =>
    have ih := ih (by omega)
    by_cases hq : k = 2 * (o + count) + 1 ∨ k = 2 * (o + count) + 2
    · have hpos : (k - 1) / 2 = o + count := by omega
      have hoff : (k - 1) / 2 - o = count := by omega
      by_cases hb : v.testBit (w - 1 - count) = true
      · rw [if_pos ⟨by omega, by omega, by omega, by rw [hoff]; exact hb⟩, setOneBits, if_pos hb, setOnePair,
          getD_set, getD_set]
        simp only [List.length_set, setOneBits_length]
        rcases hq with hk | hk
        · rw [if_neg (by omega), if_pos (by omega), if_pos (by omega)]
        · rw [if_pos (by omega), if_neg (by omega)]
      · rw [if_neg (by rw [hoff]; exact fun h => hb h.2.2.2), setOneBits, if_neg hb, ih, if_neg (by omega)]
    · have hstep : (setOneBits p v o w (count + 1) train).getD k 0 = (setOneBits p v o w count train).getD k 0 := by
        rw [setOneBits]
        split
        · rw [setOnePair, getD_set, getD_set, if_neg (by omega), if_neg (by omega)]
        · rfl
      have hiff : (k - 1) / 2 < o + (count + 1) ∧ 1 ≤ k ↔ (k - 1) / 2 < o + count ∧ 1 ≤ k := by omega
      rw [hstep, ih]
      refine if_congr ?_ rfl rfl
      constructor <;> rintro ⟨h1, h2, h3, h4⟩
      · exact ⟨h1, h2, by omega, h4⟩
      · exact ⟨h1, h2, (hiff.mp ⟨h3, h1⟩).1, h4⟩

end Sys2Proof.Machine
end

