-- ==== Sys2Proof/Laws/Vector.lean ====
section
/-! SUPPORT. Bit vectors: how BITS packs them and how a field slice reads them. -/

namespace Sys2Proof.Machine

/-- The walk 0, 1, 2 meets every field. -/
@[simp] theorem FieldId.mem_all (n : FieldId) : n ∈ FieldId.all := by cases n <;> decide

/-- A bit of a vector given entry by entry. -/
theorem bitAt_map_range (f : Nat → Bool) (n p : Nat) :
    bitAt ((List.range n).map f) p = (decide (p < n) && f p) := by
  unfold bitAt
  by_cases h : p < n <;> simp [List.getD_eq_getElem?_getD, h]

theorem packBits_lt (bv : List Bool) : packBits bv < 2 ^ bv.length := by
  induction bv with
  | nil => simp [packBits]
  | cons b bv ih =>
    have hb : b.toNat ≤ 1 := Bool.toNat_le b
    simp only [packBits, List.length_cons, pow_succ]
    omega

/-- Bit p of the packed number is BV[p] (42_demodulator.md R125). -/
theorem packBits_testBit (bv : List Bool) (p : Nat) : (packBits bv).testBit p = bitAt bv p := by
  induction bv generalizing p with
  | nil => simp [packBits, bitAt]
  | cons b bv ih =>
    cases p with
    | zero => cases b <;> simp [packBits, bitAt, Nat.testBit_zero, Nat.add_mod]
    | succ p =>
      have h : (b.toNat + 2 * packBits bv) / 2 = packBits bv := by
        have := Bool.toNat_le b
        omega
      rw [packBits, Nat.testBit_succ, h, ih]
      simp [bitAt]

/-- Bit p of the word BITS takes from a vector that fits it (10_state.md R48). -/
theorem ofNat_packBits_getLsbD (bv : List Bool) (h : bv.length ≤ 32) (p : Nat) :
    (BitVec.ofNat 32 (packBits bv)).getLsbD p = bitAt bv p := by
  rw [BitVec.getLsbD_ofNat, packBits_testBit]
  by_cases hp : p < 32
  · simp [hp]
  · have hq : bv.length ≤ p := by omega
    simp [hp, bitAt, List.getD_eq_getElem?_getD, List.getElem?_eq_none hq]

@[simp] theorem demodVector_length (s : State) : (demodVector s).length = s.prof.bvLen := by simp [demodVector]

@[simp] theorem heldVector_length (s : State) : s.heldVector.length = s.prof.bvLen := by simp [State.heldVector]

/-- BV[p] of the train in RAW (42_demodulator.md R121). -/
theorem bitAt_demodVector (s : State) (p : Nat) :
    bitAt (demodVector s) p = (decide (p < s.prof.bvLen) && demodBit s p) :=
  bitAt_map_range ..

/-- BV[p] as BITS holds it (43_extractor.md R132). -/
theorem bitAt_heldVector (s : State) (p : Nat) :
    bitAt s.heldVector p = (decide (p < s.prof.bvLen) && s.bits.getLsbD p) :=
  bitAt_map_range ..

/-- A slice of w bits gives a number below 2^w (43_extractor.md R130). -/
theorem toUint_lt (bv : List Bool) (o w : Nat) : toUint bv o w < 2 ^ w := by
  induction w with
  | zero => simp [toUint]
  | succ w ih =>
    have := Bool.toNat_le (bitAt bv (o + w))
    simp only [toUint, pow_succ]
    omega

/-- Bit i of a slice's value is the slice's bit w - 1 - i: the first bit is the most significant (43_extractor.md R130). -/
theorem toUint_testBit (bv : List Bool) (o w i : Nat) :
    (toUint bv o w).testBit i = (decide (i < w) && bitAt bv (o + (w - 1 - i))) := by
  induction w generalizing i with
  | zero => simp [toUint]
  | succ w ih =>
    have hb := Bool.toNat_le (bitAt bv (o + w))
    cases i with
    | zero =>
      cases h : bitAt bv (o + w) <;> simp [toUint, h, Nat.testBit_zero, Nat.add_mod]
    | succ i =>
      have hd : (2 * toUint bv o w + (bitAt bv (o + w)).toNat) / 2 = toUint bv o w := by omega
      rw [toUint, Nat.testBit_succ, hd, ih]
      have hi : w - (i + 1) = w - 1 - i := by omega
      simp [hi]

/-- The value of a slice depends on the slice's bits alone. -/
theorem toUint_congr {bv bv' : List Bool} {o w : Nat} (h : ∀ j, j < w → bitAt bv (o + j) = bitAt bv' (o + j)) :
    toUint bv o w = toUint bv' o w := by
  induction w with
  | zero => rfl
  | succ w ih => rw [toUint, toUint, ih fun j hj => h j (by omega), h w (by omega)]

/-- The value of a slice as the sum of 43_extractor.md R130. -/
theorem toUint_eq_sum (bv : List Bool) (o w : Nat) :
    toUint bv o w = ∑ j ∈ Finset.range w, (bitAt bv (o + j)).toNat * 2 ^ (w - 1 - j) := by
  induction w with
  | zero => simp [toUint]
  | succ w ih =>
    rw [toUint, ih, Finset.sum_range_succ, Finset.mul_sum]
    have hs : ∀ j ∈ Finset.range w, 2 * ((bitAt bv (o + j)).toNat * 2 ^ (w - 1 - j)) =
        (bitAt bv (o + j)).toNat * 2 ^ (w + 1 - 1 - j) := by
      intro j hj
      have hj' : j < w := Finset.mem_range.mp hj
      have he : w + 1 - 1 - j = w - 1 - j + 1 := by omega
      rw [he, pow_succ]
      ring
    rw [Finset.sum_congr rfl hs]
    simp

end Sys2Proof.Machine
end

