-- ==== Sys2Proof/Laws/Command.lean ====
section
/-! SUPPORT. What each shared operation and each command can do, said once: if it answers a next state, then one of
the listed cases holds. -/

namespace Sys2Proof.Machine

variable {s t : State}

/-- The lock requirement: the command runs, or NOT_LOCKED is raised (45_profile_and_control.md R163). -/
theorem whenLocked_cases {command : State → Host.Outcome State Fault Refusal} (h : whenLocked s command = .next t) :
    (s.status.locked = true ∧ command s = .next t) ∨ (s.status.locked = false ∧ t = raise .notLocked 0 s) := by
  unfold whenLocked at h
  split at h
  · exact .inl ⟨‹_›, h⟩
  · cases h
    exact .inr ⟨by simpa using ‹¬ s.status.locked = true›, rfl⟩

theorem whenLocked_of_locked {command : State → Host.Outcome State Fault Refusal} (h : s.status.locked = true) :
    whenLocked s command = command s := by simp [whenLocked, h]

theorem whenLocked_of_unlocked {command : State → Host.Outcome State Fault Refusal} (h : s.status.locked = false) :
    whenLocked s command = .next (raise .notLocked 0 s) := by simp [whenLocked, h]

/-- CLASSIFY: the symbol's code, or NOT_LOCKED (40_classifier.md R105). -/
theorem runClassify_cases {c : PosClass} (h : runClassify c s = .next t) :
    (s.status.locked = true ∧ t = complete (storeSymbol (classify s.prof s.clsIn c) s)) ∨
      (s.status.locked = false ∧ t = raise .notLocked 0 s) := by
  rcases whenLocked_cases h with ⟨hl, h⟩ | h
  · cases h
    exact .inl ⟨hl, rfl⟩
  · exact .inr h

/-- VALIDATE: FRAME_OK set, FRAME_OK cleared with the first failing check, or NOT_LOCKED (41_validator.md R114). -/
theorem execValidate_cases (h : execValidate s = .next t) :
    (s.status.locked = true ∧ validate s = none ∧ t = complete (setFrameOk true s)) ∨
      (∃ e, s.status.locked = true ∧ validate s = some e ∧ t = raise e 0 (setFrameOk false s)) ∨
      (s.status.locked = false ∧ t = raise .notLocked 0 s) := by
  rcases whenLocked_cases h with ⟨hl, h⟩ | h
  · split at h <;> cases h
    · exact .inr (.inl ⟨_, hl, ‹_›, rfl⟩)
    · exact .inl ⟨hl, ‹_›, rfl⟩
  · exact .inr (.inr h)

/-- DEMOD: the vector of the train, DEMOD_LENGTH, or NOT_LOCKED (42_demodulator.md R125). -/
theorem execDemod_cases (h : execDemod s = .next t) :
    (s.status.locked = true ∧ s.rawLen = s.prof.frameLen ∧ t = complete (storeVector (demodVector s) s)) ∨
      (s.status.locked = true ∧ s.rawLen ≠ s.prof.frameLen ∧ t = raise .demodLength 0 s) ∨
      (s.status.locked = false ∧ t = raise .notLocked 0 s) := by
  rcases whenLocked_cases h with ⟨hl, h⟩ | h
  · by_cases hn : s.rawLen = s.prof.frameLen
    · simp [demodulate, hn] at h
      exact .inl ⟨hl, hn, h.symm⟩
    · simp [demodulate, hn] at h
      exact .inr (.inl ⟨hl, hn, h.symm⟩)
  · exact .inr (.inr h)

/-- EXTRACT: the message of BITS, NO_BITS, or NOT_LOCKED (43_extractor.md R132). -/
theorem execExtract_cases (h : execExtract s = .next t) :
    (s.status.locked = true ∧ s.status.bitsValid = true ∧
        t = complete (storeMessage (fieldValue s.prof s.heldVector) s)) ∨
      (s.status.locked = true ∧ s.status.bitsValid = false ∧ t = raise .noBits 0 s) ∨
      (s.status.locked = false ∧ t = raise .notLocked 0 s) := by
  rcases whenLocked_cases h with ⟨hl, h⟩ | h
  · split at h <;> cases h
    · exact .inl ⟨hl, ‹_›, rfl⟩
    · exact .inr (.inl ⟨hl, by simpa using ‹¬ s.status.bitsValid = true›, rfl⟩)
  · exact .inr (.inr h)

/-- BUILD: the train of the message, FIELD_MISSING, FIELD_OVERFLOW, or NOT_LOCKED (44_builder.md R148). -/
theorem execBuild_cases (h : execBuild s = .next t) :
    (s.status.locked = true ∧ missingField s = none ∧ overflowingField s = none ∧
        t = complete (storeTrain (builtTrain s) s)) ∨
      (∃ n, s.status.locked = true ∧ missingField s = some n ∧ t = raise .fieldMissing n.eidx s) ∨
      (∃ n, s.status.locked = true ∧ missingField s = none ∧ overflowingField s = some n ∧
        t = raise .fieldOverflow n.eidx s) ∨
      (s.status.locked = false ∧ t = raise .notLocked 0 s) := by
  rcases whenLocked_cases h with ⟨hl, h⟩ | h
  · cases hm : missingField s with
    | some n =>
      simp [buildTrain, hm] at h
      exact .inr (.inl ⟨n, hl, rfl, h.symm⟩)
    | none =>
      cases ho : overflowingField s with
      | some n =>
        simp [buildTrain, hm, ho] at h
        exact .inr (.inr (.inl ⟨n, hl, rfl, rfl, h.symm⟩))
      | none =>
        simp [buildTrain, hm, ho] at h
        exact .inl ⟨hl, rfl, rfl, h.symm⟩
  · exact .inr (.inr (.inr h))

/-- DECODE: validation, vector and message, the first failing check, or NOT_LOCKED (45_profile_and_control.md R161). -/
theorem execDecode_cases (h : execDecode s = .next t) :
    (s.status.locked = true ∧ validate s = none ∧
        t = complete (storeMessage (fieldValue s.prof (demodVector s))
          (storeVector (demodVector s) (setFrameOk true s)))) ∨
      (∃ e, s.status.locked = true ∧ validate s = some e ∧ t = raise e 0 (setFrameOk false s)) ∨
      (s.status.locked = false ∧ t = raise .notLocked 0 s) := by
  rcases whenLocked_cases h with ⟨hl, h⟩ | h
  · split at h <;> cases h
    · exact .inr (.inl ⟨_, hl, ‹_›, rfl⟩)
    · exact .inl ⟨hl, ‹_›, rfl⟩
  · exact .inr (.inr h)

/-- LOCK: LOCKED set, the first failing check, or ALREADY_LOCKED (45_profile_and_control.md R158). -/
theorem execLock_cases (h : execLock s = .next t) :
    (s.status.locked = false ∧ lockCheck s.cfg s.prof = none ∧ t = complete (setLocked s)) ∨
      (∃ e n, s.status.locked = false ∧ lockCheck s.cfg s.prof = some (e, n) ∧ t = raise e n s) ∨
      (s.status.locked = true ∧ t = raise .alreadyLocked 0 s) := by
  unfold execLock at h
  split at h
  · cases h
    exact .inr (.inr ⟨‹_›, rfl⟩)
  · have hl : s.status.locked = false := by simpa using ‹¬ s.status.locked = true›
    split at h <;> cases h
    · exact .inr (.inl ⟨_, _, hl, ‹_›, rfl⟩)
    · exact .inl ⟨hl, ‹_›, rfl⟩

/-- What a command can do to a state, whichever it is. -/
inductive CommandEffect (s : State) : State → Prop where
  /-- An error of the checks before FRAME_OK is touched, or of a command that never touches it. -/
  | raised (e : ErrorCode) (n : BitVec 2) : CommandEffect s (raise e n s)
  /-- A failed validation. -/
  | rejected (e : ErrorCode) (hl : s.status.locked = true) (he : validate s = some e) :
      CommandEffect s (raise e 0 (setFrameOk false s))
  | nop : CommandEffect s (complete s)
  | classified (c : PosClass) (hl : s.status.locked = true) :
      CommandEffect s (complete (storeSymbol (classify s.prof s.clsIn c) s))
  | validated (hl : s.status.locked = true) (hv : validate s = none) : CommandEffect s (complete (setFrameOk true s))
  | demodulated (hl : s.status.locked = true) (hn : s.rawLen = s.prof.frameLen) :
      CommandEffect s (complete (storeVector (demodVector s) s))
  | extracted (hl : s.status.locked = true) (hb : s.status.bitsValid = true) :
      CommandEffect s (complete (storeMessage (fieldValue s.prof s.heldVector) s))
  | built (hl : s.status.locked = true) (hm : missingField s = none) (ho : overflowingField s = none) :
      CommandEffect s (complete (storeTrain (builtTrain s) s))
  | decoded (hl : s.status.locked = true) (hv : validate s = none) :
      CommandEffect s (complete (storeMessage (fieldValue s.prof (demodVector s))
        (storeVector (demodVector s) (setFrameOk true s))))
  | locked (hl : s.status.locked = false) (hc : lockCheck s.cfg s.prof = none) : CommandEffect s (complete (setLocked s))

/-- Every command does one of the listed things. -/
theorem exec_effect {i : Instr} (h : exec i s = .next t) : CommandEffect s t := by
  cases i with
  | nop =>
    cases h
    exact .nop
  | classifyHdr => exact (runClassify_cases h).elim (fun h => h.2 ▸ .classified _ h.1) (fun h => h.2 ▸ .raised ..)
  | classifyFtr => exact (runClassify_cases h).elim (fun h => h.2 ▸ .classified _ h.1) (fun h => h.2 ▸ .raised ..)
  | classifyData => exact (runClassify_cases h).elim (fun h => h.2 ▸ .classified _ h.1) (fun h => h.2 ▸ .raised ..)
  | classifyData1 => exact (runClassify_cases h).elim (fun h => h.2 ▸ .classified _ h.1) (fun h => h.2 ▸ .raised ..)
  | validate =>
    rcases execValidate_cases h with ⟨hl, hv, rfl⟩ | ⟨e, hl, he, rfl⟩ | ⟨-, rfl⟩
    · exact .validated hl hv
    · exact .rejected e hl he
    · exact .raised ..
  | demod =>
    rcases execDemod_cases h with ⟨hl, hn, rfl⟩ | ⟨-, -, rfl⟩ | ⟨-, rfl⟩
    · exact .demodulated hl hn
    · exact .raised ..
    · exact .raised ..
  | extract =>
    rcases execExtract_cases h with ⟨hl, hb, rfl⟩ | ⟨-, -, rfl⟩ | ⟨-, rfl⟩
    · exact .extracted hl hb
    · exact .raised ..
    · exact .raised ..
  | build =>
    rcases execBuild_cases h with ⟨hl, hm, ho, rfl⟩ | ⟨n, -, -, rfl⟩ | ⟨n, -, -, -, rfl⟩ | ⟨-, rfl⟩
    · exact .built hl hm ho
    · exact .raised ..
    · exact .raised ..
    · exact .raised ..
  | decode =>
    rcases execDecode_cases h with ⟨hl, hv, rfl⟩ | ⟨e, hl, he, rfl⟩ | ⟨-, rfl⟩
    · exact .decoded hl hv
    · exact .rejected e hl he
    · exact .raised ..
  | lock =>
    rcases execLock_cases h with ⟨hl, hc, rfl⟩ | ⟨e, n, -, -, rfl⟩ | ⟨-, rfl⟩
    · exact .locked hl hc
    · exact .raised ..
    · exact .raised ..

end Sys2Proof.Machine
end

