-- ==== Sys2Proof/Laws/Registers.lean ====
section
/-! SUPPORT. The words the registers read as numbers, the walks over the three fields, and the address map. -/

namespace Sys2Proof.Machine

/-! The walk 0, 1, 2 over the fields -/

/-- What holds of every field holds of the three. -/
theorem FieldId.forall_iff {P : FieldId → Prop} : (∀ n, P n) ↔ P .systemcode ∧ P .unitcode ∧ P .id :=
  ⟨fun h => ⟨h _, h _, h _⟩, fun ⟨h0, h1, h2⟩ n => by cases n <;> assumption⟩

/-- The walk finds nothing exactly when no field has the property. -/
theorem FieldId.find?_eq_none (f : FieldId → Bool) : FieldId.all.find? f = none ↔ ∀ n, f n = false := by
  simp [FieldId.all, FieldId.forall_iff]

/-- The walk finds the field with the property that no field before it has. -/
theorem FieldId.find?_eq_some (f : FieldId → Bool) (n : FieldId) (h : f n = true)
    (hlow : ∀ m : FieldId, m.index < n.index → f m = false) : FieldId.all.find? f = some n := by
  cases n with
  | systemcode => simp [FieldId.all, h]
  | unitcode => simp [FieldId.all, h, hlow .systemcode (by decide)]
  | id => simp [FieldId.all, h, hlow .systemcode (by decide), hlow .unitcode (by decide)]

/-! Register words -/

/-- STATUS as a number (10_state.md R25). -/
theorem Status.toWord_toNat (st : Status) :
    st.toWord.toNat = st.ok.toNat + 2 * st.eclass.toNat + 16 * st.eidx.toNat + 256 * st.ecode.toNat +
      65536 * st.locked.toNat + 131072 * st.frameOk.toNat + 262144 * st.bitsValid.toNat +
      524288 * st.txReady.toNat + 1048576 * st.berr.toNat := by
  have h1 := st.eclass.isLt
  have h2 := st.eidx.isLt
  have h3 := st.ecode.isLt
  have hb : ∀ b : Bool, b.toNat < 2 ^ 1 := fun b => by cases b <;> decide
  have b1 := hb st.ok
  have b2 := hb st.locked
  have b3 := hb st.frameOk
  have b4 := hb st.bitsValid
  have b5 := hb st.txReady
  have b6 := hb st.berr
  simp only [Status.toWord, BitVec.toNat_append, BitVec.toNat_ofBool, BitVec.toNat_ofNat, Nat.zero_mod,
    Nat.zero_shiftLeft, Nat.zero_or]
  iterate 9 rw [← Nat.shiftLeft_add_eq_or_of_lt (by omega)]
  simp only [Nat.shiftLeft_eq]
  omega

/-- PROF_FIELDn as a number (10_state.md R43). -/
theorem FieldSpec.toWord_toNat (f : FieldSpec) : f.toWord.toNat = f.offset.toNat + 256 * f.width.toNat := by
  have h1 := f.offset.isLt
  have h2 := f.width.isLt
  simp only [FieldSpec.toWord, BitVec.toNat_append, BitVec.toNat_ofNat, Nat.zero_mod, Nat.zero_shiftLeft, Nat.zero_or]
  rw [← Nat.shiftLeft_add_eq_or_of_lt (by omega), Nat.shiftLeft_eq]
  omega

/-- What PROF_FIELDn keeps of a word: bits 15:0 (20_memory.md R69). -/
theorem FieldSpec.ofWord_toWord_toNat (v : Word) : (FieldSpec.ofWord v).toWord.toNat = v.toNat % 65536 := by
  rw [FieldSpec.toWord_toNat]
  simp only [FieldSpec.ofWord, BitVec.extractLsb'_toNat, Nat.shiftRight_eq_div_pow]
  omega

/-! The address map -/

/-- An address below the RAW window names only the register whose address it is, and no RAW entry (20_memory.md R62). -/
theorem lowReg_addr {a : Nat} {r : Reg} (h : lowReg a = some r) : r.addr.toNat = a ∧ ∀ k, r ≠ .raw k := by
  unfold lowReg at h
  split at h <;> cases h <;> exact ⟨rfl, by simp⟩

/-- A register that is no RAW entry is named by its own address only (20_memory.md R62). -/
theorem addr_of_regAt {c : Config} {a : Addr} {r : Reg} (h : regAt c a = some r) (hr : ∀ k, r ≠ .raw k) :
    a = r.addr := by
  unfold regAt rawBase at h
  split at h
  · exact BitVec.eq_of_toNat_eq (lowReg_addr h).1.symm
  · split at h
    · exact absurd (Option.some.inj h).symm (hr _)
    · exact absurd h (by simp)

/-- A RAW entry is named only inside the RAW window (20_memory.md R63). -/
theorem rawWindow_of_regAt {c : Config} {a : Addr} {k : Nat} (h : regAt c a = some (.raw k)) :
    0x100 ≤ a.toNat ∧ k = a.toNat - 0x100 ∧ k < c.rawCap := by
  unfold regAt rawBase at h
  split at h
  · exact absurd rfl ((lowReg_addr h).2 k)
  · split at h
    · have hk := Reg.raw.inj (Option.some.inj h)
      exact ⟨by omega, hk.symm, by omega⟩
    · exact absurd h (by simp)

end Sys2Proof.Machine
end

