-- ==== Sys2Proof/Laws/Bus.lean ====
section
/-! SUPPORT. What a host access and a step can do, said once. -/

namespace Sys2Proof.Machine

variable {s t : State}

/-- A command word either is no command and raises its decoding error, or runs its command (30_encoding.md R80). -/
theorem perform_cases {w : Word} (h : perform w s = .next t) :
    (∃ e, decode w = .error e ∧ t = raise (decodeErrorCode e) 0 s) ∨ (∃ i, decode w = .ok i ∧ exec i s = .next t) := by
  unfold perform at h
  split at h
  · cases h
    exact .inl ⟨_, ‹_›, rfl⟩
  · exact .inr ⟨_, ‹_›, h⟩

/-- A write to CMD has a command's effect (20_memory.md R71). -/
theorem perform_effect {w : Word} (h : perform w s = .next t) : CommandEffect s t := by
  rcases perform_cases h with ⟨e, -, rfl⟩ | ⟨i, -, h⟩
  · exact .raised ..
  · exact exec_effect h

/-- What a write to a mapped register does (20_memory.md R68, R70). -/
theorem writeReg_cases {v : Word} {r : Reg} (h : writeReg v s r = .next t) :
    (t = respond .writeError (busError s)) ∨
      (∃ q, r = .prof q ∧ s.status.locked = false ∧ t = respond .writeDone { s with prof := s.prof.write v q }) ∨
      (r = .rawLen ∧ v.toNat ≤ s.cfg.rawCap ∧ t = respond .writeDone (clearTrainFlags { s with rawLen := v })) ∨
      (r = .cmd ∧ perform v (respond .writeDone s) = .next t) ∨
      (∃ k, r = .raw k ∧ t = respond .writeDone (clearTrainFlags (writeRaw k v s))) ∨
      (∃ n, r = .field n ∧ t = respond .writeDone (markPresent n (writeField n v s))) ∨
      (r = .fieldPresent ∧ t = respond .writeDone { s with fieldPresent := v.setWidth 3 }) ∨
      (r = .clsIn ∧ t = respond .writeDone { s with clsIn := v }) := by
  cases r with
  | prof q =>
    by_cases hl : s.status.locked = true
    · simp only [writeReg, hl, if_true, writeRejected] at h
      cases h
      exact .inl rfl
    · simp only [writeReg, hl] at h
      cases h
      exact .inr (.inl ⟨q, rfl, by simpa using hl, rfl⟩)
  | rawLen =>
    by_cases hc : s.cfg.rawCap < v.toNat
    · simp only [writeReg, hc, if_true, writeRejected] at h
      cases h
      exact .inl rfl
    · simp only [writeReg, hc, if_false] at h
      cases h
      exact .inr (.inr (.inl ⟨rfl, by omega, rfl⟩))
  | cmd => exact .inr (.inr (.inr (.inl ⟨rfl, h⟩)))
  | raw k =>
    cases h
    exact .inr (.inr (.inr (.inr (.inl ⟨k, rfl, rfl⟩))))
  | field n =>
    cases h
    exact .inr (.inr (.inr (.inr (.inr (.inl ⟨n, rfl, rfl⟩)))))
  | fieldPresent =>
    cases h
    exact .inr (.inr (.inr (.inr (.inr (.inr (.inl ⟨rfl, rfl⟩))))))
  | clsIn =>
    cases h
    exact .inr (.inr (.inr (.inr (.inr (.inr (.inr ⟨rfl, rfl⟩))))))
  | id | status | clsOut | bits | bitsLen | txRepeat =>
    cases h
    exact .inl rfl

/-- A write is a bus error at an unmapped address, else the write of the register there (20_memory.md R70). -/
theorem busWrite_cases {a : Addr} {v : Word} (h : busWrite a v s = .next t) :
    (regAt s.cfg a = none ∧ t = respond .writeError (busError s)) ∨
      (∃ r, regAt s.cfg a = some r ∧ writeReg v s r = .next t) := by
  unfold busWrite at h
  split at h
  · cases h
    exact .inl ⟨‹_›, rfl⟩
  · exact .inr ⟨_, ‹_›, h⟩

/-- A read answers the register's word, or is a bus error at an unmapped address (20_memory.md R67, R68). -/
theorem busRead_cases (a : Addr) (s : State) :
    (regAt s.cfg a = none ∧ busRead a s = respond (.readError 0) (busError s)) ∨
      (∃ r, regAt s.cfg a = some r ∧ busRead a s = respond (.readData (readReg s r)) s) := by
  unfold busRead
  cases h : regAt s.cfg a with
  | none => exact .inl ⟨rfl, rfl⟩
  | some r => exact .inr ⟨r, rfl, rfl⟩

/-- A step is idle, or takes the next host event (00_scope.md R12). -/
theorem step_cases (h : step s = .next t) :
    (s.hostIn = [] ∧ t = s) ∨ (∃ e rest, s.hostIn = e :: rest ∧ hostEvent s.dropEvent e = .next t) := by
  unfold step at h
  split at h
  · cases h
    exact .inl ⟨‹_›, rfl⟩
  · exact .inr ⟨_, _, ‹_›, h⟩

/-- What one host event can do. -/
theorem hostEvent_cases {e : HostEvent} (h : hostEvent s e = .next t) :
    (s.rstLine = true ∧ (∀ b, e ≠ .rst b) ∧ t = ignoreAccess s) ∨
      (∃ a, e = .read a ∧ s.rstLine = false ∧ t = busRead a s) ∨
      (∃ a v, e = .write a v ∧ s.rstLine = false ∧ busWrite a v s = .next t) ∨
      (e = .rst true ∧ t = assertRst s) ∨ (e = .rst false ∧ t = releaseRst s) := by
  cases e with
  | read a =>
    by_cases hr : s.rstLine = true
    · simp only [hostEvent, hr, if_true] at h
      cases h
      exact .inl ⟨hr, by simp, rfl⟩
    · simp only [hostEvent, hr] at h
      cases h
      exact .inr (.inl ⟨a, rfl, by simpa using hr, rfl⟩)
  | write a v =>
    by_cases hr : s.rstLine = true
    · simp only [hostEvent, hr, if_true] at h
      cases h
      exact .inl ⟨hr, by simp, rfl⟩
    · simp only [hostEvent, hr] at h
      exact .inr (.inr (.inl ⟨a, v, rfl, by simpa using hr, h⟩))
  | rst b =>
    cases b <;> cases h
    · exact .inr (.inr (.inr (.inr ⟨rfl, rfl⟩)))
    · exact .inr (.inr (.inr (.inl ⟨rfl, rfl⟩)))

/-- What a host event can do to a state, whichever it is (20_memory.md R67, R68, R70; 70_reset_and_hazards.md R190). -/
inductive EventEffect (s : State) (e : HostEvent) : State → Prop where
  | ignored (hr : s.rstLine = true) (he : ∀ b, e ≠ .rst b) : EventEffect s e (ignoreAccess s)
  | badRead (a : Addr) (he : e = .read a) : EventEffect s e (respond (.readError 0) (busError s))
  | read (a : Addr) (r : Reg) (he : e = .read a) : EventEffect s e (respond (.readData (readReg s r)) s)
  | badWrite (a : Addr) (v : Word) (he : e = .write a v) : EventEffect s e (respond .writeError (busError s))
  | profile (a : Addr) (v : Word) (q : ProfReg) (he : e = .write a v) (hl : s.status.locked = false) :
      EventEffect s e (respond .writeDone { s with prof := s.prof.write v q })
  | rawLen (v : Word) (he : e = .write 0x005 v) (hv : v.toNat ≤ s.cfg.rawCap) :
      EventEffect s e (respond .writeDone (clearTrainFlags { s with rawLen := v }))
  | command (v : Word) (t : State) (he : e = .write 0x001 v) (h : perform v (respond .writeDone s) = .next t) :
      EventEffect s e t
  | raw (a : Addr) (v : Word) (k : Nat) (he : e = .write a v) (ha : 0x100 ≤ a.toNat) :
      EventEffect s e (respond .writeDone (clearTrainFlags (writeRaw k v s)))
  | field (a : Addr) (v : Word) (n : FieldId) (he : e = .write a v) :
      EventEffect s e (respond .writeDone (markPresent n (writeField n v s)))
  | fieldPresent (a : Addr) (v : Word) (he : e = .write a v) :
      EventEffect s e (respond .writeDone { s with fieldPresent := v.setWidth 3 })
  | clsIn (a : Addr) (v : Word) (he : e = .write a v) : EventEffect s e (respond .writeDone { s with clsIn := v })
  | asserted (he : e = .rst true) : EventEffect s e (assertRst s)
  | released (he : e = .rst false) : EventEffect s e (releaseRst s)

/-- Every host event does one of the listed things. -/
theorem hostEvent_effect {e : HostEvent} (h : hostEvent s e = .next t) : EventEffect s e t := by
  rcases hostEvent_cases h with ⟨hr, he, rfl⟩ | ⟨a, he, -, rfl⟩ | ⟨a, v, he, -, h⟩ | ⟨he, rfl⟩ | ⟨he, rfl⟩
  · exact .ignored hr he
  · rcases busRead_cases a s with ⟨-, hb⟩ | ⟨r, -, hb⟩ <;> rw [hb]
    · exact .badRead a he
    · exact .read a r he
  · rcases busWrite_cases h with ⟨-, rfl⟩ | ⟨r, hr, h⟩
    · exact .badWrite a v he
    rcases writeReg_cases h with rfl | ⟨q, rfl, hl, rfl⟩ | ⟨rfl, hl, rfl⟩ | ⟨rfl, h⟩ | ⟨k, rfl, rfl⟩ | ⟨n, rfl, rfl⟩ |
      ⟨rfl, rfl⟩ | ⟨rfl, rfl⟩
    · exact .badWrite a v he
    · exact .profile a v q he hl
    · have ha := addr_of_regAt hr (by simp)
      subst ha
      exact .rawLen v he hl
    · have ha := addr_of_regAt hr (by simp)
      subst ha
      exact .command v _ he h
    · exact .raw a v k he (rawWindow_of_regAt hr).1
    · exact .field a v n he
    · exact .fieldPresent a v he
    · exact .clsIn a v he
  · exact .asserted he
  · exact .released he

end Sys2Proof.Machine
end

