-- ==== Sys2Proof/Laws/Decode.lean ====
section
/-! SUPPORT. The fields of a command word as numbers, and the decoder said on them. -/

namespace Sys2Proof

theorem opcField_toNat (w : Word) : (opcField w).toNat = w.toNat % 16 := by
  simp [opcField, BitVec.extractLsb'_toNat]

theorem subField_toNat (w : Word) : (subField w).toNat = w.toNat / 16 % 16 := by
  simp [subField, BitVec.extractLsb'_toNat, Nat.shiftRight_eq_div_pow]

theorem rsvField_toNat (w : Word) : (rsvField w).toNat = w.toNat / 256 := by
  have hw := w.isLt
  simp only [rsvField, BitVec.extractLsb'_toNat, Nat.shiftRight_eq_div_pow]
  omega

/-- The checks of 30_encoding.md R80 in their order, on the word as a number. -/
theorem decode_eq (w : Word) : decode w =
    if 8 ≤ w.toNat % 16 then .error .illegalOpcode
    else if w.toNat / 256 ≠ 0 then .error .reservedBits
    else if w.toNat % 16 ≠ 1 ∧ w.toNat / 16 % 16 ≠ 0 then .error .reservedBits
    else if w.toNat % 16 = 1 ∧ 4 ≤ w.toNat / 16 % 16 then .error .badClass
    else .ok (instrOf (opcField w) (subField w)) := by
  unfold decode
  simp only [BitVec.le_def, ← BitVec.toNat_inj, opcField_toNat, subField_toNat, rsvField_toNat, ne_eq]
  rfl

end Sys2Proof
end

