-- ==== Sys2Proof/Laws/PerInstr.lean ====
section
/-! SUPPORT. Families of statements made per instruction. -/

/-- Every command is well formed, its word passes the checks on the word, and its word is below 64: the reserved bits
and the upper bits of SUB are 0 (30_encoding.md R80, R81). -/
def Sys2Proof.Laws.EncodeWellFormed.Statement (i : Sys2Proof.Instr) : Prop :=
  i.wellFormed = true ∧ Sys2Proof.commandWordWellFormed (Sys2Proof.encode i) = true ∧
    (Sys2Proof.encode i).toNat < 64

namespace Sys2Proof.Laws.EncodeWellFormed

theorem nop : Statement .nop := by unfold Statement; decide
theorem classifyHdr : Statement .classifyHdr := by unfold Statement; decide
theorem classifyFtr : Statement .classifyFtr := by unfold Statement; decide
theorem classifyData : Statement .classifyData := by unfold Statement; decide
theorem classifyData1 : Statement .classifyData1 := by unfold Statement; decide
theorem validate : Statement .validate := by unfold Statement; decide
theorem demod : Statement .demod := by unfold Statement; decide
theorem extract : Statement .extract := by unfold Statement; decide
theorem build : Statement .build := by unfold Statement; decide
theorem decode : Statement .decode := by unfold Statement; decide
theorem lock : Statement .lock := by unfold Statement; decide

end Sys2Proof.Laws.EncodeWellFormed
end

