-- ==== Sys2Proof/Tests/Slice0.lean ====
section
/-! SUPPORT. Tests: what the checks of well-formedness refuse, the command words written out from the spec's encoding,
the spec's own vectors one step at a time, and a witness for the hypotheses of each statement. -/

namespace Sys2Proof.Tests

open Sys2Proof.Machine

/-! ### Well-formedness: each check refuses an ill-formed term -/

theorem test_rawCap_below_range_refused : Config.wellFormed { Config.reference with rawCap := 3 } = false := by decide
theorem test_rawCap_above_range_refused : Config.wellFormed { Config.reference with rawCap := 257 } = false := by decide
theorem test_rawCap_bounds_accepted :
    Config.wellFormed { Config.reference with rawCap := 4 } = true ∧
      Config.wellFormed { Config.reference with rawCap := 256 } = true := by decide
theorem test_opcode_check_refuses : commandWordWellFormed 0x00000008 = false := by decide
theorem test_reserved_check_refuses : commandWordWellFormed 0x00000107 = false := by decide
theorem test_sub_check_refuses : commandWordWellFormed 0x00000012 = false := by decide
theorem test_class_check_refuses : commandWordWellFormed 0x00000041 = false := by decide

/-! ### Decoding: RSV (24 bits), SUB (4 bits), OPC (4 bits), written out from 30_encoding.md R80, R82, R84 -/

theorem test_decode_nop : decode 0b000000000000000000000000_0000_0000#32 = .ok .nop := by decide
theorem test_decode_classifyHdr : decode 0b000000000000000000000000_0000_0001#32 = .ok .classifyHdr := by decide
theorem test_decode_classifyFtr : decode 0b000000000000000000000000_0001_0001#32 = .ok .classifyFtr := by decide
theorem test_decode_classifyData : decode 0b000000000000000000000000_0010_0001#32 = .ok .classifyData := by decide
theorem test_decode_classifyData1 : decode 0b000000000000000000000000_0011_0001#32 = .ok .classifyData1 := by decide
theorem test_decode_validate : decode 0b000000000000000000000000_0000_0010#32 = .ok .validate := by decide
theorem test_decode_demod : decode 0b000000000000000000000000_0000_0011#32 = .ok .demod := by decide
theorem test_decode_extract : decode 0b000000000000000000000000_0000_0100#32 = .ok .extract := by decide
theorem test_decode_build : decode 0b000000000000000000000000_0000_0101#32 = .ok .build := by decide
theorem test_decode_decode : decode 0b000000000000000000000000_0000_0110#32 = .ok .decode := by decide
theorem test_decode_lock : decode 0b000000000000000000000000_0000_0111#32 = .ok .lock := by decide

/-- V-CMD-1 to V-CMD-8 of 95_test_vectors.md. -/
theorem test_decode_rejects :
    decode 0x00000008 = .error .illegalOpcode ∧ decode 0x0000000F = .error .illegalOpcode ∧
      decode 0xFFFFFFFF = .error .illegalOpcode ∧ decode 0x00000107 = .error .reservedBits ∧
      decode 0x00000012 = .error .reservedBits ∧ decode 0x80000002 = .error .reservedBits ∧
      decode 0x00000041 = .error .badClass ∧ decode 0x00000141 = .error .reservedBits := by decide

theorem test_decodeTableWord : decodeTableWord 32 0x31 = some .classifyData1 ∧ decodeTableWord 32 0x41 = none ∧
    decodeTableWord 8 0x106 = some .decode := by decide

/-! ### Small states -/

/-- REF-A of 45_profile_and_control.md R157: a test fixture. -/
def refA : Profile where
  frameLen := 42
  hdrMin := 300
  hdrMax := 500
  ftrMin := 2000
  ftrMax := 2800
  longThr := 800
  firstAdj := 0
  short := 400
  long := 1200
  ftrPulse := 2400
  repeatCount := 4
  spec0 := ⟨0, 8⟩
  spec1 := ⟨8, 8⟩
  spec2 := ⟨16, 4⟩

/-- REF-B of 45_profile_and_control.md R157: a test fixture. -/
def refB : Profile where
  frameLen := 42
  hdrMin := 200
  hdrMax := 400
  ftrMin := 2700
  ftrMax := 4500
  longThr := 600
  firstAdj := 100
  short := 300
  long := 900
  ftrPulse := 3000
  repeatCount := 6
  spec0 := ⟨0, 8⟩
  spec1 := ⟨8, 8⟩
  spec2 := ⟨16, 4⟩

/-- The train of E6: (5, 10, 3) under REF-A. -/
def trainE6 : List Word :=
  [400, 400, 1200, 400, 1200, 400, 1200, 400, 1200, 400, 1200, 1200, 400, 400, 1200, 1200, 400, 400, 1200, 400, 1200] ++
    [400, 1200, 400, 1200, 1200, 400, 400, 1200, 1200, 400, 400, 1200, 400, 1200, 400, 1200, 1200, 400, 1200, 400, 2400]

/-- After reset, the profile writes and a successful LOCK. -/
def lockedOn (p : Profile) : State :=
  { State.reset with prof := p, status := { Status.reset with ok := true, locked := true } }

/-- That with a train loaded. -/
def loaded (p : Profile) (train : List Word) : State :=
  { lockedOn p with raw := overwrite State.reset.raw train, rawLen := BitVec.ofNat 32 train.length }

/-- That with a message set. -/
def messaged (p : Profile) (f0 f1 f2 : Word) : State :=
  { lockedOn p with field0 := f0, field1 := f1, field2 := f2, fieldPresent := 7 }

/-- The host's next event is `e`. -/
def facing (e : HostEvent) (s : State) : State := { s with hostIn := [e] }

/-- The outcome is a next state with this STATUS word and this property. -/
def ends (o : Host.Outcome State Fault Refusal) (status : Word) (p : State → Bool) : Bool :=
  match o with
  | .next t => t.status.toWord == status && p t
  | .fault _ => false
  | .refused _ => false

/-! ### Vectors of 95_test_vectors.md, one step each -/

/-- V-NOP-1. -/
theorem test_nop_at_reset : ends (exec .nop State.reset) 0x00000001 (fun _ => true) = true := by decide

/-- V-CLS-1, V-CLS-2. -/
theorem test_classifyHdr_bound :
    ends (exec .classifyHdr { lockedOn refA with clsIn := 299 }) 0x00010001 (fun t => t.clsOut == 5) = true ∧
      ends (exec .classifyHdr { lockedOn refA with clsIn := 300 }) 0x00010001 (fun t => t.clsOut == 3) = true := by
  decide

/-- V-CLS-8, V-CLS-9. -/
theorem test_classifyFtr_bound :
    ends (exec .classifyFtr { lockedOn refA with clsIn := 2800 }) 0x00010001 (fun t => t.clsOut == 4) = true ∧
      ends (exec .classifyFtr { lockedOn refA with clsIn := 2801 }) 0x00010001 (fun t => t.clsOut == 5) = true := by
  decide

/-- V-CLS-11, V-CLS-12. -/
theorem test_classifyData_strict :
    ends (exec .classifyData { lockedOn refA with clsIn := 800 }) 0x00010001 (fun t => t.clsOut == 1) = true ∧
      ends (exec .classifyData { lockedOn refA with clsIn := 801 }) 0x00010001 (fun t => t.clsOut == 2) = true := by
  decide

/-- V-CLS-16, V-CLS-17. -/
theorem test_classifyData1_adjusted :
    ends (exec .classifyData1 { lockedOn refB with clsIn := 500 }) 0x00010001 (fun t => t.clsOut == 1) = true ∧
      ends (exec .classifyData1 { lockedOn refB with clsIn := 501 }) 0x00010001 (fun t => t.clsOut == 2) = true := by
  decide

/-- V-CLS-26. -/
theorem test_classify_needs_lock :
    ends (exec .classifyData { State.reset with clsIn := 801 }) 0x00003308 (fun t => t.clsOut == 0) = true := by decide

/-- E4: RAW[41] = 2800 passes. -/
theorem test_validate_accepts_bound :
    ends (exec .validate (loaded refA (trainE6.set 41 2800))) 0x00030001 (fun _ => true) = true := by decide

/-- V-VAL-6: both windows wrong, the header reported. -/
theorem test_validate_header_first :
    ends (exec .validate (loaded refA ((trainE6.set 0 0).set 41 0))) 0x00010202 (fun _ => true) = true := by decide

/-- V-DEM-1, without the flags of a BUILD before it. -/
theorem test_demod_scenario :
    ends (exec .demod (loaded refA trainE6)) 0x00050001 (fun t => t.bits == 0x000C50A0 && t.bitsLen == 20) = true := by
  decide

/-- V-DEM-7, V-DEM-8: 550 is long at pair 0 only, here with every other pulse 0. -/
theorem test_demod_first_pair :
    ends (exec .demod (loaded refB ((List.replicate 42 0).set 1 550))) 0x00050001 (fun t => t.bits == 1) = true ∧
      ends (exec .demod (loaded refB ((List.replicate 42 0).set 3 550))) 0x00050001 (fun t => t.bits == 0) = true := by
  decide

/-- V-EXT-1: the fields of BITS = 0x000C50A0. -/
theorem test_extract_scenario :
    ends (exec .extract { lockedOn refA with
        bits := 0x000C50A0, bitsLen := 20, status := { (lockedOn refA).status with bitsValid := true } })
      0x00050001 (fun t => t.field0 == 5 && t.field1 == 10 && t.field2 == 3 && t.fieldPresent == 7) = true := by decide

/-- V-EXT-2. -/
theorem test_extract_needs_vector :
    ends (exec .extract (lockedOn refA)) 0x00013508 (fun t => t.fieldPresent == 0) = true := by decide

/-- V-BLD-1: the train of E6, RAW_LEN and TX_REPEAT. -/
theorem test_build_scenario :
    ends (exec .build (messaged refA 5 10 3)) 0x00090001
      (fun t => t.raw.take 42 == trainE6 && t.rawLen == 42 && t.txRepeat == 4) = true := by decide

/-- V-BLD-10: presence is checked before any width. -/
theorem test_build_presence_first :
    ends (exec .build { messaged refA 999 0 0 with fieldPresent := 0b011 }) 0x00011024 (fun t => t.rawLen == 0) = true := by
  decide

/-- V-DEC-1. -/
theorem test_decode_scenario :
    ends (exec .decode (loaded refA trainE6)) 0x00070001
      (fun t => t.bits == 0x000C50A0 && t.field0 == 5 && t.field1 == 10 && t.field2 == 3) = true := by decide

/-- V-DEC-3. -/
theorem test_decode_footer_rejected :
    ends (exec .decode (loaded refA (trainE6.set 41 1999))) 0x00010302 (fun t => t.fieldPresent == 0) = true := by decide

/-- V-LCK-1, V-LCK-20. -/
theorem test_lock_then_locked :
    ends (exec .lock { State.reset with prof := refA }) 0x00010001 (fun _ => true) = true ∧
      ends (exec .lock (lockedOn refA)) 0x00013408 (fun _ => true) = true := by decide

/-- V-LCK-12, V-LCK-15. -/
theorem test_lock_reports :
    ends (exec .lock { State.reset with prof := { refA with spec1 := ⟨7, 8⟩ } }) 0x00002516 (fun _ => true) = true ∧
      ends (exec .lock { State.reset with prof := { refA with firstAdj := 801 } }) 0x00002606 (fun _ => true) = true := by
  decide

/-- V-BUS-3, V-BUS-7: a read of an unmapped address, a profile write while locked. -/
theorem test_bus_errors :
    ends (step (facing (.read 0x009) (lockedOn refA))) 0x00110001 (fun t => t.resp == some (.readError 0)) = true ∧
      ends (step (facing (.write 0x027 1) (lockedOn refA))) 0x00110001 (fun t => t.prof.short == 400) = true := by decide

/-- V-BUS-11, V-BUS-12. -/
theorem test_bus_writes :
    ends (step (facing (.write 0x012 0xFFFFFFFF) (lockedOn refA))) 0x00010001 (fun t => t.fieldPresent == 4) = true ∧
      ends (step (facing (.write 0x02C 0xABCD0808) State.reset)) 0x00000000
        (fun t => readReg t (.prof (.fieldSpec .unitcode)) == 0x00000808) = true := by decide

/-- V-CMD-11 by way of the table word: the first step after reset runs the placed command. -/
theorem test_placed_command_runs :
    ends (step (State.reset.withFetchWord 32 0x00000002)) 0x00003308 (fun _ => true) = true := by decide

/-- The source's "variant A": baseline 400, multiplier 2, footer multiplier 6, its window factors 5/6 and 7/6
(45_profile_and_control.md R157). -/
def variantA : Variant where
  frameLen := 42
  baseline := 400
  multiplier := ⟨2, 1, by decide⟩
  header := .absolute 300 500
  footer := .multiple ⟨6, 1, by decide⟩ ⟨5, 6, by decide⟩ ⟨7, 6, by decide⟩
  firstAdj := 0
  longPulse := 1200
  repeatCount := 4
  spec0 := ⟨0, 8⟩
  spec1 := ⟨8, 8⟩
  spec2 := ⟨16, 4⟩

/-- It derives to REF-A. -/
theorem test_profile_derivation : variantA.profile = refA := by decide

/-! ### Witnesses: states and operands that meet the hypotheses of each statement together, clause by clause -/

/-- The shortest profile LOCK can accept: three fields of one bit, FIRST_ADJ equal to LONG_THR. -/
def tiny : Profile :=
  { refA with
    frameLen := 8, longThr := 800, firstAdj := 800, short := 0, hdrMin := 0
    spec0 := ⟨0, 1⟩, spec1 := ⟨1, 1⟩, spec2 := ⟨2, 1⟩ }

/-- The longest: 66 pulses, a field of 30 bits (V-EXT-8). -/
def wide : Profile := { refA with frameLen := 66, spec0 := ⟨0, 30⟩, spec1 := ⟨30, 1⟩, spec2 := ⟨31, 1⟩ }

/-- An instance that can hold it. -/
def wideConfig : Config := { Config.reference with rawCap := 66 }

theorem refA_legal : LegalProfile Config.reference refA where
  even := by decide
  atLeast := by decide
  fitsRaw := by decide
  fitsBits := by decide
  width n := by cases n <;> decide
  bounds n := by cases n <;> decide
  budget := by decide
  apart m n := by cases m <;> cases n <;> decide
  adjustment := by decide

theorem tiny_legal : LegalProfile Config.reference tiny where
  even := by decide
  atLeast := by decide
  fitsRaw := by decide
  fitsBits := by decide
  width n := by cases n <;> decide
  bounds n := by cases n <;> decide
  budget := by decide
  apart m n := by cases m <;> cases n <;> decide
  adjustment := by decide

theorem wide_legal : LegalProfile wideConfig wide where
  even := by decide
  atLeast := by decide
  fitsRaw := by decide
  fitsBits := by decide
  width n := by cases n <;> decide
  bounds n := by cases n <;> decide
  budget := by decide
  apart m n := by cases m <;> cases n <;> decide
  adjustment := by decide

/-- A train of eight pulses under `tiny`. -/
def train8 : List Word := [0, 1, 0, 801, 0, 800, 0, 2800]

/-- A locked instance with a vector held, a train that passes and a built frame: every flag but BERR set. -/
def full : State :=
  { lockedOn tiny with
    status := { (lockedOn tiny).status with frameOk := true, bitsValid := true, txReady := true }
    raw := overwrite State.reset.raw [0, 0, 1200, 1200, 0, 0, 1200, 2400], rawLen := 8, txRepeat := 4
    bits := 2, bitsLen := 3, field0 := 0, field1 := 1, field2 := 0, fieldPresent := 7 }

theorem full_inv : full.Inv where
  config := by decide
  rawSize := by decide
  rawLenFits := by decide
  symbol := by decide
  result := .inl ⟨rfl, rfl, rfl⟩
  lockedLegal _ := tiny_legal
  vectorHeld := by decide
  vectorEmpty := by decide
  bitsAbove q hq := by
    have h : 3 ≤ q := hq
    rcases Nat.lt_or_ge q 32 with h32 | h32
    · interval_cases q <;> decide
    · exact BitVec.getLsbD_of_ge _ _ h32
  frameOk _ := ⟨by decide, by decide, by decide, by decide⟩
  txReady _ := by
    refine ⟨by decide, by decide, by decide, by decide, by decide, fun q hq => ?_⟩
    have h : q < 3 := hq
    interval_cases q <;> decide

theorem witness_DecodeAndEncodeAgree : Instr.classifyData1.wellFormed = true ∧ decode 0x31 = .ok .classifyData1 := by
  decide

theorem witness_IllegalWordsRaise :
    (8 ≤ (0x00000008 : Word).toNat % 16 ∧ 8 ≤ (0x0000000F : Word).toNat % 16) ∧
      ((0x00000107 : Word).toNat % 16 < 8 ∧ (0x00000107 : Word).toNat / 256 ≠ 0) ∧
      ((0x00000012 : Word).toNat % 16 < 8 ∧ (0x00000012 : Word).toNat % 16 ≠ 1 ∧
        (0x00000012 : Word).toNat / 16 % 16 ≠ 0) ∧
      ((0x00000041 : Word).toNat / 256 = 0 ∧ (0x00000041 : Word).toNat % 16 = 1 ∧
        4 ≤ (0x00000041 : Word).toNat / 16 % 16) := by decide

theorem witness_StepRunsDecodedCommand :
    (facing (.write 0x001 0x00000031) full).hostIn = .write 0x001 0x00000031 :: [] ∧
      (facing (.write 0x001 0x00000031) full).rstLine = false ∧ decode 0x00000031 = .ok .classifyData1 := by decide

theorem witness_IdleBlockHoldsState : full.hostIn = [] := by decide

theorem witness_ResetRegistersReadZero :
    regAt Config.reference 0x000 = some .id ∧ regAt Config.reference 0x13F = some (.raw 63) := by decide

theorem witness_RstResetsAndBlocksAccesses :
    (facing (.rst true) full).hostIn = .rst true :: [] ∧
      (facing (.rst false) { full with rstLine := true }).hostIn = .rst false :: [] ∧
      (facing (.write 0x003 1) { full with rstLine := true }).hostIn = .write 0x003 1 :: [] ∧
      (facing (.write 0x003 1) { full with rstLine := true }).rstLine = true := by decide

theorem witness_NopOnlyWritesSuccess :
    (0x00000010 : Word).toNat % 16 = 0 ∧ (0x00000010 : Word) ≠ 0 ∧ (0x80000000 : Word).toNat % 16 = 0 := by decide

/-- The four CLASSIFY statements; FIRST_ADJ up to LONG_THR, and 0. -/
theorem witness_Classify :
    (lockedOn refA).status.locked = true ∧ tiny.firstAdj.toNat ≤ tiny.longThr.toNat ∧ refA.firstAdj = 0 ∧
      (lockedOn tiny).status.locked = true := by decide

theorem witness_ValidateAcceptsPassingFrame :
    (loaded tiny train8).status.locked = true ∧ (loaded tiny train8).rawLen = (loaded tiny train8).prof.frameLen ∧
      (loaded tiny train8).prof.headerFits ((loaded tiny train8).rawAt 0) ∧
      (loaded tiny train8).prof.footerFits ((loaded tiny train8).rawAt 7) := by decide

theorem witness_ValidateReportsFirstFailure :
    (loaded tiny (train8 ++ [5])).rawLen ≠ tiny.frameLen ∧
      ((loaded tiny (train8.set 0 501)).rawLen = tiny.frameLen ∧
        ¬ tiny.headerFits ((loaded tiny (train8.set 0 501)).rawAt 0)) ∧
      ((loaded tiny (train8.set 7 2801)).rawLen = tiny.frameLen ∧
        tiny.headerFits ((loaded tiny (train8.set 7 2801)).rawAt 0) ∧
        ¬ tiny.footerFits ((loaded tiny (train8.set 7 2801)).rawAt 7)) := by decide

theorem witness_ValidateIgnoresBodyPulses :
    (loaded tiny train8).status = (loaded tiny (train8.set 3 5)).status ∧
      (loaded tiny train8).prof = (loaded tiny (train8.set 3 5)).prof ∧
      (loaded tiny train8).rawLen = (loaded tiny (train8.set 3 5)).rawLen ∧
      (loaded tiny train8).rawAt 0 = (loaded tiny (train8.set 3 5)).rawAt 0 ∧
      (loaded tiny train8).rawAt 7 = (loaded tiny (train8.set 3 5)).rawAt 7 ∧
      (∃ t, exec .validate (loaded tiny train8) = .next t) ∧
      ∃ t, exec .validate (loaded tiny (train8.set 3 5)) = .next t :=
  ⟨by decide, by decide, by decide, by decide, by decide, ⟨_, rfl⟩, ⟨_, rfl⟩⟩

theorem witness_DemodReadsKeyPulses :
    (loaded tiny train8).status.locked = true ∧ LegalProfile (loaded tiny train8).cfg (loaded tiny train8).prof ∧
      (loaded tiny train8).rawLen = (loaded tiny train8).prof.frameLen :=
  ⟨by decide, tiny_legal, by decide⟩

theorem witness_DemodRejectsOtherLengths :
    (loaded tiny train8.tail).status.locked = true ∧
      (loaded tiny train8.tail).rawLen ≠ (loaded tiny train8.tail).prof.frameLen := by decide

theorem witness_DemodIgnoresOtherPulses :
    (loaded tiny train8).status = (loaded tiny (train8.set 4 5)).status ∧
      (loaded tiny train8).prof = (loaded tiny (train8.set 4 5)).prof ∧
      (loaded tiny train8).rawLen = (loaded tiny (train8.set 4 5)).rawLen ∧
      (∀ q, q < 3 → (loaded tiny train8).rawAt (2 * q + 1) = (loaded tiny (train8.set 4 5)).rawAt (2 * q + 1)) ∧
      (∃ t, exec .demod (loaded tiny train8) = .next t) ∧ ∃ t, exec .demod (loaded tiny (train8.set 4 5)) = .next t :=
  ⟨by decide, by decide, by decide, by decide, ⟨_, rfl⟩, ⟨_, rfl⟩⟩

theorem witness_ExtractReadsSlicesMsbFirst :
    full.status.locked = true ∧ LegalProfile full.cfg full.prof ∧ full.status.bitsValid = true :=
  ⟨by decide, tiny_legal, by decide⟩

theorem witness_ExtractNeedsVector :
    (lockedOn tiny).status.locked = true ∧ (lockedOn tiny).status.bitsValid = false := by decide

/-- Under the policy ERROR with the greatest values that fit, and under TRUNCATE with any. -/
theorem witness_BuildPlacesMessagePulses :
    ((messaged tiny 1 0 1).status.locked = true ∧ LegalProfile (messaged tiny 1 0 1).cfg (messaged tiny 1 0 1).prof ∧
        (messaged tiny 1 0 1).raw.length = (messaged tiny 1 0 1).cfg.rawCap ∧
        (∀ n, (messaged tiny 1 0 1).present n = true) ∧
        ∀ n, ((messaged tiny 1 0 1).field n).toNat < 2 ^ (messaged tiny 1 0 1).prof.width n) ∧
      LegalProfile { Config.reference with overflowPolicy := .truncate } refA :=
  ⟨⟨by decide, tiny_legal, by decide, fun n => by cases n <;> decide, fun n => by cases n <;> decide⟩,
    ⟨refA_legal.even, refA_legal.atLeast, refA_legal.fitsRaw, refA_legal.fitsBits, refA_legal.width, refA_legal.bounds,
      refA_legal.budget, refA_legal.apart, refA_legal.adjustment⟩⟩

theorem witness_BuildReportsMissingField :
    (lockedOn tiny).status.locked = true ∧ (lockedOn tiny).present .systemcode = false ∧
      { messaged tiny 1 0 1 with fieldPresent := 0b011 }.present .id = false ∧
      ∀ m : FieldId, m.index < FieldId.id.index → { messaged tiny 1 0 1 with fieldPresent := 0b011 }.present m = true :=
  ⟨by decide, by decide, by decide, fun m => by cases m <;> decide⟩

theorem witness_BuildReportsOverflow :
    (messaged tiny 1 1 2).cfg.overflowPolicy = .error ∧ (∀ m, (messaged tiny 1 1 2).present m = true) ∧
      2 ^ tiny.width .id ≤ ((messaged tiny 1 1 2).field .id).toNat ∧
      ∀ m : FieldId, m.index < FieldId.id.index → ((messaged tiny 1 1 2).field m).toNat < 2 ^ tiny.width m :=
  ⟨by decide, fun m => by cases m <;> decide, by decide, fun m => by cases m <;> decide⟩

theorem witness_BuildKeepsFrameLength :
    ∃ t, exec .build (messaged tiny 1 0 1) = .next t ∧ t.status.ok = true := ⟨_, rfl, by decide⟩

/-- A legal profile, and one that is not: the profile after reset. -/
theorem witness_LockAcceptsExactlyLegalProfiles :
    { State.reset with prof := tiny }.status.locked = false ∧ LegalProfile Config.reference tiny ∧
      LegalProfile wideConfig wide ∧ State.reset.status.locked = false ∧
      ¬ LegalProfile State.reset.cfg State.reset.prof :=
  ⟨by decide, tiny_legal, wide_legal, by decide, fun h => absurd h.atLeast (by decide)⟩

/-- Each of the seven checks is the first to fail on some profile, at the bound of its range. -/
theorem witness_LockReportsFirstFailure :
    { tiny with frameLen := 9 }.frameLen.toNat % 2 = 1 ∧
      ({ tiny with frameLen := 2 }.frameLen.toNat < 4 ∧
        min Config.reference.rawCap 66 < { tiny with frameLen := 66 }.frameLen.toNat) ∧
      ({ tiny with spec0 := ⟨0, 0⟩ }.width .systemcode = 0 ∧
        32 < { tiny with spec2 := ⟨0, 33⟩ }.width .id ∧
        ∀ m : FieldId, m.index < FieldId.id.index →
          1 ≤ { tiny with spec2 := ⟨0, 33⟩ }.width m ∧ { tiny with spec2 := ⟨0, 33⟩ }.width m ≤ 32) ∧
      (3 < { tiny with spec2 := ⟨3, 1⟩ }.offset .id + { tiny with spec2 := ⟨3, 1⟩ }.width .id ∧
        ∀ m : FieldId, m.index < FieldId.id.index →
          { tiny with spec2 := ⟨3, 1⟩ }.offset m + { tiny with spec2 := ⟨3, 1⟩ }.width m ≤ 3) ∧
      (3 < { tiny with spec0 := ⟨0, 2⟩ }.width .systemcode + { tiny with spec0 := ⟨0, 2⟩ }.width .unitcode +
          { tiny with spec0 := ⟨0, 2⟩ }.width .id ∧
        ∀ n, { tiny with spec0 := ⟨0, 2⟩ }.offset n + { tiny with spec0 := ⟨0, 2⟩ }.width n ≤ 3) ∧
      ({ tiny with spec2 := ⟨1, 1⟩ }.offset .unitcode ≤ 1 ∧ 1 < { tiny with spec2 := ⟨1, 1⟩ }.offset .id + 1 ∧
        ∀ k l : FieldId, k.index < l.index → l.index < FieldId.id.index →
          { tiny with spec2 := ⟨1, 1⟩ }.offset k + { tiny with spec2 := ⟨1, 1⟩ }.width k ≤
            { tiny with spec2 := ⟨1, 1⟩ }.offset l) ∧
      { tiny with firstAdj := 801 }.longThr.toNat < { tiny with firstAdj := 801 }.firstAdj.toNat :=
  ⟨by decide, by decide, ⟨by decide, by decide, fun m => by cases m <;> decide⟩,
    ⟨by decide, fun m => by cases m <;> decide⟩, ⟨by decide, fun n => by cases n <;> decide⟩,
    ⟨by decide, by decide, fun k l => by cases k <;> cases l <;> decide⟩, by decide⟩

theorem witness_LockOnlyOnce : full.status.locked = true := by decide

theorem witness_DecodeReadsWholeFrame :
    (loaded tiny train8).status.locked = true ∧ LegalProfile (loaded tiny train8).cfg (loaded tiny train8).prof ∧
      (loaded tiny train8).FramePasses :=
  ⟨by decide, tiny_legal, by decide, by decide, by decide⟩

theorem witness_DecodeRejectsAsValidate :
    (loaded refA (trainE6.set 0 299)).status.locked = true ∧ (loaded refA trainE6.tail).rawLen ≠ refA.frameLen ∧
      ((loaded refA (trainE6.set 0 299)).rawLen = refA.frameLen ∧
        ¬ refA.headerFits ((loaded refA (trainE6.set 0 299)).rawAt 0)) ∧
      refA.headerFits ((loaded refA (trainE6.set 41 1999)).rawAt 0) ∧
      ¬ refA.footerFits ((loaded refA (trainE6.set 41 1999)).rawAt 41) := by decide

theorem witness_DecodeIsValidateDemodExtract :
    LegalProfile (loaded tiny train8).cfg (loaded tiny train8).prof ∧ ∃ s1 s2 s3, exec .validate (loaded tiny train8) = .next s1 ∧ s1.status.ok = true ∧ exec .demod s1 = .next s2 ∧
      exec .extract s2 = .next s3 :=
  ⟨tiny_legal, _, _, _, rfl, by decide, rfl, rfl⟩

theorem witness_CommandsNeedLock : State.reset.status.locked = false ∧ Instr.demod ≠ .nop ∧ Instr.demod ≠ .lock := by
  decide

/-- A command that raises and clears FRAME_OK, and one that raises and does not. -/
theorem witness_RaisingWritesNoResult :
    (∃ t, perform 0x00000006 { full with rawLen := 9 } = .next t ∧ t.status.ok = false) ∧
      ∃ t, perform 0x00000004 (lockedOn tiny) = .next t ∧ t.status.ok = false :=
  ⟨⟨_, rfl, by decide⟩, ⟨_, rfl, by decide⟩⟩

theorem witness_ResultFieldsWrittenByCommands :
    (∃ t, perform 0x00000005 full = .next t) ∧ (facing (.write 0x003 9) full).hostIn = .write 0x003 9 :: [] ∧
      (∃ t, step (facing (.write 0x003 9) full) = .next t) ∧ HostEvent.write 0x003 9 ≠ .rst true ∧
      ∀ w, HostEvent.write 0x003 9 ≠ .write 0x001 w :=
  ⟨⟨_, rfl⟩, by decide, ⟨_, rfl⟩, by decide, fun w h => by cases h⟩

theorem witness_CommandsKeepHostOperands : ∃ t, perform 0x00000005 full = .next t := ⟨_, rfl⟩

theorem witness_TrainFlagsReadByNoCommand : ∃ t, exec .build full = .next t := ⟨_, rfl⟩

theorem witness_LockedProfileIsFrozen :
    (∃ t, step (facing (.write 0x020 9) full) = .next t) ∧ (facing (.write 0x020 9) full).status.locked = true ∧
      (facing (.write 0x020 9) full).hostIn.head? ≠ some (.rst true) :=
  ⟨⟨_, rfl⟩, by decide, by decide⟩

/-- BERR stays set over an access, and an access sets it. -/
theorem witness_BusErrorFlagIsSticky :
    (∃ t, step (facing (.read 0x002) (busError full)) = .next t ∧ t.status.berr = true) ∧
      (busError full).status.berr = true ∧
      ∃ t, step (facing (.write 0x000 0) full) = .next t ∧ full.status.berr = false ∧ t.status.berr = true :=
  ⟨⟨_, rfl, by decide⟩, by decide, ⟨_, rfl, by decide, by decide⟩⟩

/-- BITS_VALID kept and set, TX_READY cleared and set. -/
theorem witness_ResultFlagsChangeAsStated :
    (full.status.bitsValid = true ∧ ∃ t, step (facing (.write 0x005 64) full) = .next t ∧ t.status.txReady = false) ∧
      (∃ t, step (facing (.write 0x001 3) (loaded tiny train8)) = .next t ∧ t.status.bitsValid = true) ∧
      ∃ t, step (facing (.write 0x001 5) (messaged tiny 1 0 1)) = .next t ∧ t.status.txReady = true :=
  ⟨⟨by decide, _, rfl, by decide⟩, ⟨_, rfl, by decide⟩, ⟨_, rfl, by decide⟩⟩

theorem witness_ResultRegistersHaveOneWriter :
    (∃ t, step (facing (.write 0x001 1) (lockedOn tiny)) = .next t ∧ t.clsOut ≠ (lockedOn tiny).clsOut) ∧
      (∃ t, step (facing (.write 0x001 6) (loaded tiny train8)) = .next t ∧ t.bitsLen ≠ (loaded tiny train8).bitsLen) ∧
      ∃ t, step (facing (.write 0x001 5) (messaged tiny 1 0 1)) = .next t ∧
        t.txRepeat ≠ (messaged tiny 1 0 1).txRepeat :=
  ⟨⟨_, rfl, by decide⟩, ⟨_, rfl, by decide⟩, ⟨_, rfl, by decide⟩⟩

theorem witness_InvariantHoldsAfterReset : Config.reference.wellFormed = true ∧ wideConfig.wellFormed = true := by
  decide

theorem witness_ParametersAreFixedAndPlacementInvisible : ∃ t, step (facing (.rst true) full) = .next t := ⟨_, rfl⟩

/-- A state of the invariant with every flag but BERR set, and a step from it. -/
theorem witness_EveryStepKeepsInvariant : full.Inv ∧ ∃ t, step full = .next t := ⟨full_inv, _, rfl⟩

theorem witness_FrameOkMeansValidatePasses : full.Inv ∧ full.status.frameOk = true := ⟨full_inv, by decide⟩

theorem witness_BuiltTrainValidatesIffWindowsFit :
    full.Inv ∧ full.status.txReady = true ∧ full.prof.headerFits full.prof.short ∧
      full.prof.footerFits full.prof.ftrPulse := ⟨full_inv, by decide, by decide, by decide⟩

theorem witness_BuildThenDecodeRoundTrips :
    full.Inv ∧ full.status.locked = true ∧ full.prof.RoundTripSafe ∧ (∀ n, full.present n = true) ∧
      ∀ n, (full.field n).toNat < 2 ^ full.prof.width n :=
  ⟨full_inv, by decide, ⟨by decide, by decide, by decide, by decide⟩, fun n => by cases n <;> decide,
    fun n => by cases n <;> decide⟩

theorem witness_AddressesNameOneRegister :
    Config.reference.wellFormed = true ∧ (Reg.raw 63).addr = 0x13F ∧ 63 < Config.reference.rawCap := by decide

/-- The bounds of the unmapped ranges and of the RAW window. -/
theorem witness_AddressMapAsListed :
    regAt Config.reference 0x009 = none ∧ regAt Config.reference 0x00F = none ∧ regAt Config.reference 0x014 = none ∧
      regAt Config.reference 0x01F = none ∧ regAt Config.reference 0x02E = none ∧
      regAt Config.reference 0x0FF = none ∧ regAt Config.reference 0x100 = some (.raw 0) ∧
      regAt Config.reference 0x13F = some (.raw 63) ∧ regAt Config.reference 0x140 = none ∧
      regAt Config.reference 0xFFF = none := by decide

theorem witness_ReadsHaveNoSideEffect :
    (facing (.read 0x13F) full).hostIn = .read 0x13F :: [] ∧ (facing (.read 0x13F) full).rstLine = false ∧
      regAt full.cfg 0x13F = some (.raw 63) ∧ regAt full.cfg 0x140 = none := by decide

/-- The four kinds of bus error, at the bounds of their ranges. -/
theorem witness_BusErrorsOnlySetBerr :
    regAt full.cfg 0x140 = none ∧ full.rstLine = false ∧
      (0x020 ≤ (0x02D : Addr).toNat ∧ (0x02D : Addr).toNat ≤ 0x02D ∧ full.status.locked = true) ∧
      full.cfg.rawCap < (65 : Word).toNat := by decide

theorem witness_WritesHaveStatedEffects :
    (facing (.write 0x13F 9) full).hostIn = .write 0x13F 9 :: [] ∧ regAt full.cfg 0x13F = some (.raw 63) ∧
      (64 : Word).toNat ≤ full.cfg.rawCap ∧ regAt State.reset.cfg 0x02D = some (.prof (.fieldSpec .id)) ∧
      State.reset.status.locked = false := by decide

theorem witness_ReservedBitsIgnoreWrites : State.reset.status.locked = false := by decide

theorem witness_RawReadsLatestWrite : full.Inv ∧ 63 < full.cfg.rawCap ∧ 0 < full.cfg.rawCap :=
  ⟨full_inv, by decide, by decide⟩

/-- REF-B's forms: baseline 300, header 300 ± 100, fixed footer length 3000 (45_profile_and_control.md R157). -/
def variantB : Variant where
  frameLen := 42
  baseline := 300
  multiplier := ⟨2, 1, by decide⟩
  header := .aroundBaseline 100 100
  footer := .fixedLength 3000
  firstAdj := 100
  longPulse := 900
  repeatCount := 6
  spec0 := ⟨0, 8⟩
  spec1 := ⟨8, 8⟩
  spec2 := ⟨16, 4⟩

/-- They derive to REF-B. -/
theorem test_profile_derivation_variantB : variantB.profile = refB := by decide

/-- Each of the four window forms, its lower bound within the 32-bit range; and the greatest such bounds. -/
theorem witness_LoadedWindowsAreExact :
    (variantA.header = .absolute 300 500 ∧ 300 ≤ 0xFFFFFFFF) ∧
      (variantB.header = .aroundBaseline 100 100 ∧ variantB.baseline ≤ 0xFFFFFFFF + 100) ∧
      (variantA.footer = .multiple ⟨6, 1, by decide⟩ ⟨5, 6, by decide⟩ ⟨7, 6, by decide⟩ ∧
        variantA.baseline * (6 * 5) ≤ 0xFFFFFFFF * (1 * 6)) ∧
      (variantB.footer = .fixedLength 3000 ∧ 3000 * 9 ≤ 0xFFFFFFFF * 10) ∧
      { variantB with baseline := 0x100000063 }.baseline ≤ 0xFFFFFFFF + 100 := by decide

end Sys2Proof.Tests
end

/-! The command word of each command, both ways (30_encoding.md R80, R92). -/

namespace Sys2Proof

/-- The decoder reads each command's word as that command (30_encoding.md R92). -/
theorem decode_encode (i : Instr) : decode (encode i) = .ok i := by cases i <;> decide

/-- The word of the command with the code `opc` and the position class `sub` carries exactly those two fields
(30_encoding.md R80, R82, R84). -/
theorem encode_instrOf_toNat {opc sub : BitVec 4} (hopc : opc.toNat < 8)
    (hsub : if opc.toNat = 1 then sub.toNat < 4 else sub.toNat = 0) :
    (encode (instrOf opc sub)).toNat = opc.toNat + 16 * sub.toNat := by
  revert opc sub
  decide

/-- No other word decodes to a command (30_encoding.md R80, R92). -/
theorem eq_encode_of_decode {w : Word} {i : Instr} (h : decode w = .ok i) : w = encode i := by
  rw [decode_eq] at h
  split_ifs at h with hopc hrsv hsub hclass
  cases h
  apply BitVec.eq_of_toNat_eq
  rw [encode_instrOf_toNat, opcField_toNat, subField_toNat]
  · omega
  · rw [opcField_toNat]
    omega
  · rw [opcField_toNat, subField_toNat]
    split <;> omega

end Sys2Proof

/-! Every command in one form: it raises the first error it meets, or it stores its result and completes. The
three functions below name that error and what is stored; `exec_of_error` and `exec_of_noError` tie them to `exec`. -/

namespace Sys2Proof.Machine

/-! The error of a command -/

/-- The error of a command that needs the lock and then the check `e` (45_profile_and_control.md R163). -/
def lockedError (s : State) (e : Option (ErrorCode × BitVec 2)) : Option (ErrorCode × BitVec 2) :=
  if s.status.locked then e else some (.notLocked, 0)

/-- What BUILD finds wrong with the message: presence before width (44_builder.md R140 to R142). -/
def buildError (s : State) : Option (ErrorCode × BitVec 2) :=
  match missingField s with
  | some n => some (.fieldMissing, n.eidx)
  | none => (overflowingField s).map fun n => (.fieldOverflow, n.eidx)

/-- The error a command raises in a state, with its EIDX; none where the command succeeds. -/
def commandError (i : Instr) (s : State) : Option (ErrorCode × BitVec 2) :=
  match i with
  | .nop => none
  | .classifyHdr | .classifyFtr | .classifyData | .classifyData1 => lockedError s none
  | .validate | .decode => lockedError s ((validate s).map fun e => (e, 0))
  | .demod => lockedError s (if s.rawLen = s.prof.frameLen then none else some (.demodLength, 0))
  | .extract => lockedError s (if s.status.bitsValid then none else some (.noBits, 0))
  | .build => lockedError s (buildError s)
  | .lock => if s.status.locked then some (.alreadyLocked, 0) else lockCheck s.cfg s.prof

/-- What a successful command stores besides the result fields. -/
def commandResult (i : Instr) (s : State) : State :=
  match i with
  | .nop => s
  | .classifyHdr => storeSymbol (classify s.prof s.clsIn .header) s
  | .classifyFtr => storeSymbol (classify s.prof s.clsIn .footer) s
  | .classifyData => storeSymbol (classify s.prof s.clsIn .data) s
  | .classifyData1 => storeSymbol (classify s.prof s.clsIn .dataFirst) s
  | .validate => setFrameOk true s
  | .demod => storeVector (demodVector s) s
  | .extract => storeMessage (fieldValue s.prof s.heldVector) s
  | .build => storeTrain (builtTrain s) s
  | .decode =>
    storeMessage (fieldValue s.prof (demodVector s)) (storeVector (demodVector s) (setFrameOk true s))
  | .lock => setLocked s

/-- What a command that raises leaves besides the result fields: a failed validation clears FRAME_OK
(41_validator.md R114, 60_exceptions.md R174). -/
def errorState (i : Instr) (s : State) : State :=
  match i with
  | .validate | .decode => if s.status.locked then setFrameOk false s else s
  | _ => s

variable {s t : State} {i : Instr} {e : ErrorCode} {n : BitVec 2} {c : Option (ErrorCode × BitVec 2)}

@[simp] theorem lockedError_of_locked (h : s.status.locked = true) : lockedError s c = c := if_pos h

@[simp] theorem lockedError_of_unlocked (h : s.status.locked = false) : lockedError s c = some (.notLocked, 0) := by
  simp [lockedError, h]

theorem lockedError_eq_none : lockedError s c = none ↔ s.status.locked = true ∧ c = none := by
  cases h : s.status.locked <;> simp [h]

/-- Every command raises its error, or completes with its result. -/
theorem exec_cases (h : exec i s = .next t) :
    (commandError i s = none ∧ t = complete (commandResult i s)) ∨
      ∃ e n, commandError i s = some (e, n) ∧ t = raise e n (errorState i s) := by
  have classified {c : PosClass} (h : runClassify c s = .next t) :
      (lockedError s none = none ∧ t = complete (storeSymbol (classify s.prof s.clsIn c) s)) ∨
        ∃ e n, lockedError s none = some (e, n) ∧ t = raise e n s := by
    rcases runClassify_cases h with ⟨hl, rfl⟩ | ⟨hl, rfl⟩
    · exact .inl ⟨lockedError_of_locked hl, rfl⟩
    · exact .inr ⟨_, _, lockedError_of_unlocked hl, rfl⟩
  cases i with
  | nop =>
    cases h
    exact .inl ⟨rfl, rfl⟩
  | classifyHdr | classifyFtr | classifyData | classifyData1 => exact classified h
  | validate =>
    rcases execValidate_cases h with ⟨hl, hv, rfl⟩ | ⟨e, hl, hv, rfl⟩ | ⟨hl, rfl⟩ <;>
      simp [commandError, commandResult, errorState, *]
  | demod =>
    rcases execDemod_cases h with ⟨hl, hn, rfl⟩ | ⟨hl, hn, rfl⟩ | ⟨hl, rfl⟩ <;>
      simp [commandError, commandResult, errorState, *]
  | extract =>
    rcases execExtract_cases h with ⟨hl, hb, rfl⟩ | ⟨hl, hb, rfl⟩ | ⟨hl, rfl⟩ <;>
      simp [commandError, commandResult, errorState, *]
  | build =>
    rcases execBuild_cases h with ⟨hl, hm, ho, rfl⟩ | ⟨n, hl, hm, rfl⟩ | ⟨n, hl, hm, ho, rfl⟩ | ⟨hl, rfl⟩ <;>
      simp [commandError, commandResult, errorState, buildError, *]
  | decode =>
    rcases execDecode_cases h with ⟨hl, hv, rfl⟩ | ⟨e, hl, hv, rfl⟩ | ⟨hl, rfl⟩ <;>
      simp [commandError, commandResult, errorState, *]
  | lock =>
    rcases execLock_cases h with ⟨hl, hc, rfl⟩ | ⟨e, n, hl, hc, rfl⟩ | ⟨hl, rfl⟩ <;>
      simp [commandError, commandResult, errorState, *]

theorem whenLocked_total {f : State → Host.Outcome State Fault Refusal} (h : ∃ t, f s = .next t) :
    ∃ t, whenLocked s f = .next t := by
  cases hl : s.status.locked with
  | true => rwa [whenLocked_of_locked hl]
  | false => exact ⟨_, whenLocked_of_unlocked hl⟩

/-- Every command answers a next state (70_reset_and_hazards.md R200). -/
theorem exec_total (i : Instr) (s : State) : ∃ t, exec i s = .next t := by
  cases i with
  | nop => exact ⟨_, rfl⟩
  | classifyHdr | classifyFtr | classifyData | classifyData1 =>
    apply whenLocked_total
    exact ⟨_, rfl⟩
  | validate | demod | extract | build | decode =>
    apply whenLocked_total
    split <;> exact ⟨_, rfl⟩
  | lock =>
    simp only [exec, execLock]
    repeat' split
    all_goals exact ⟨_, rfl⟩

theorem exec_of_noError (h : commandError i s = none) : exec i s = .next (complete (commandResult i s)) := by
  obtain ⟨t, ht⟩ := exec_total i s
  rcases exec_cases ht with ⟨-, rfl⟩ | ⟨e, n, he, -⟩
  · exact ht
  · rw [h] at he
    cases he

theorem exec_of_error (h : commandError i s = some (e, n)) : exec i s = .next (raise e n (errorState i s)) := by
  obtain ⟨t, ht⟩ := exec_total i s
  rcases exec_cases ht with ⟨hn, -⟩ | ⟨e', n', he, rfl⟩
  · rw [h] at hn
    cases hn
  · rw [h] at he
    cases he
    exact ht

/-! The errors that can be raised -/

/-- EIDX is a field number for the errors that name a field, else 0 (60_exceptions.md R170). -/
def ErrorCode.IndexLegal (e : ErrorCode) (n : BitVec 2) : Prop := if e.hasIndex then n.toNat ≤ 2 else n = 0

theorem ErrorCode.indexLegal_zero (e : ErrorCode) : e.IndexLegal 0 := by simp [ErrorCode.IndexLegal]

theorem ErrorCode.indexLegal_eidx (m : FieldId) (h : e.hasIndex = true) : e.IndexLegal m.eidx := by
  rw [ErrorCode.IndexLegal, if_pos h]
  cases m <;> decide

/-- LOCK reports a field number only with the errors of one field (45_profile_and_control.md R159). -/
theorem lockCheck_index {c : Config} {p : Profile} (h : lockCheck c p = some (e, n)) : e.IndexLegal n := by
  unfold lockCheck at h
  repeat' split at h
  all_goals cases h
  case isTrue | isFalse.isTrue | h_2.isTrue | h_2.isTrue => exact ErrorCode.indexLegal_zero _
  case h_1 | h_1 | h_1 => exact ErrorCode.indexLegal_eidx _ rfl

theorem buildError_index (h : buildError s = some (e, n)) : e.IndexLegal n := by
  unfold buildError at h
  split at h
  · cases h
    exact ErrorCode.indexLegal_eidx _ rfl
  · obtain ⟨m, -, hm⟩ := Option.map_eq_some_iff.mp h
    cases hm
    exact ErrorCode.indexLegal_eidx _ rfl

/-- An error behind the lock requirement is NOT_LOCKED or the error of the check. -/
theorem lockedError_index (hc : c = some (e, n) → e.IndexLegal n) (h : lockedError s c = some (e, n)) :
    e.IndexLegal n := by
  cases hl : s.status.locked with
  | true =>
    rw [lockedError_of_locked hl] at h
    exact hc h
  | false =>
    rw [lockedError_of_unlocked hl] at h
    cases h
    exact ErrorCode.indexLegal_zero _

/-- Every error a command raises has the EIDX the table of 60_exceptions.md R170 gives it. -/
theorem commandError_index (h : commandError i s = some (e, n)) : e.IndexLegal n := by
  cases i with
  | nop => cases h
  | classifyHdr | classifyFtr | classifyData | classifyData1 => exact lockedError_index (by simp) h
  | validate | decode =>
    refine lockedError_index (fun hv => ?_) h
    obtain ⟨_, -, hm⟩ := Option.map_eq_some_iff.mp hv
    cases hm
    exact ErrorCode.indexLegal_zero _
  | demod | extract =>
    refine lockedError_index (fun hc => ?_) h
    split at hc <;> cases hc
    exact ErrorCode.indexLegal_zero _
  | build => exact lockedError_index buildError_index h
  | lock =>
    simp only [commandError] at h
    split at h
    · cases h
      exact ErrorCode.indexLegal_zero _
    · exact lockCheck_index h

/-! What a command can write -/

/-- A command that raises leaves everything besides the result fields, and sets FRAME_OK at most to 0
(60_exceptions.md R174). -/
theorem errorState_eq (i : Instr) (s : State) :
    ∃ b, (b = true → s.status.frameOk = true) ∧ errorState i s = setFrameOk b s := by
  have keep : ∃ b, (b = true → s.status.frameOk = true) ∧ s = setFrameOk b s := ⟨_, id, rfl⟩
  cases i with
  | validate | decode =>
    simp only [errorState]
    split
    · exact ⟨false, by simp, rfl⟩
    · exact keep
  | nop | classifyHdr | classifyFtr | classifyData | classifyData1 | demod | extract | build | lock => exact keep

/-- What a command word does: it is a command's and stores its result, or an error is raised and nothing else written,
FRAME_OK set at most to 0. -/
theorem perform_result {w : Word} (h : perform w s = .next t) :
    (∃ i, w = encode i ∧ commandError i s = none ∧ t = complete (commandResult i s)) ∨
      ∃ e n b, e.IndexLegal n ∧ (b = true → s.status.frameOk = true) ∧ t = raise e n (setFrameOk b s) := by
  rcases perform_cases h with ⟨d, -, rfl⟩ | ⟨i, hi, h⟩
  · exact .inr ⟨decodeErrorCode d, 0, _, ErrorCode.indexLegal_zero _, id, rfl⟩
  · rcases exec_cases h with ⟨he, rfl⟩ | ⟨e, n, he, rfl⟩
    · exact .inl ⟨i, eq_encode_of_decode hi, he, rfl⟩
    · obtain ⟨b, hb, hs⟩ := errorState_eq i s
      exact .inr ⟨e, n, b, commandError_index he, hb, by rw [hs]⟩

end Sys2Proof.Machine

/-! Which profiles pass the checks of LOCK, and which pulse each entry of a built train is under one that
does. -/

namespace Sys2Proof.Machine

/-! LOCK -/

theorem badWidth_eq_none (p : Profile) : badWidth p = none ↔ ∀ n, 1 ≤ p.width n ∧ p.width n ≤ 32 := by
  simp only [badWidth, FieldId.find?_eq_none, decide_eq_false_iff_not]
  exact forall_congr' fun n => by omega

theorem badBounds_eq_none (p : Profile) : badBounds p = none ↔ ∀ n, p.offset n + p.width n ≤ p.bvLen := by
  simp [badBounds]

theorem slicesOverlap_eq_false (p : Profile) (m n : FieldId) : slicesOverlap p m n = false ↔
    p.offset m + p.width m ≤ p.offset n ∨ p.offset n + p.width n ≤ p.offset m := by
  simp only [slicesOverlap, decide_eq_false_iff_not]
  omega

theorem overlappingField_eq_none (p : Profile) : overlappingField p = none ↔
    ∀ m n : FieldId, m ≠ n → p.offset m + p.width m ≤ p.offset n ∨ p.offset n + p.width n ≤ p.offset m := by
  have walk : overlappingField p = none ↔ ∀ n m : FieldId, m.index < n.index → slicesOverlap p m n = false := by
    simp [overlappingField]
  rw [walk]
  constructor
  · intro h m n hmn
    have hi : m.index < n.index ∨ n.index < m.index := by
      cases m <;> cases n <;> simp [FieldId.index] at hmn ⊢
    rcases hi with hi | hi
    · exact (slicesOverlap_eq_false p m n).mp (h n m hi)
    · exact ((slicesOverlap_eq_false p n m).mp (h m n hi)).symm
  · intro h n m hi
    exact (slicesOverlap_eq_false p m n).mpr (h m n (by rintro rfl; omega))

/-- LOCK's seven checks pass for exactly the legal profiles (45_profile_and_control.md R159). -/
theorem lockCheck_eq_none (c : Config) (p : Profile) : lockCheck c p = none ↔ LegalProfile c p := by
  constructor
  · intro h
    unfold lockCheck at h
    repeat' split at h
    all_goals cases h
    rename_i hodd hrange _ hwidth _ hbounds hbudget _ hoverlap hadj
    simp only [Config.frameMax] at hrange
    exact {
      even := by omega
      atLeast := by omega
      fitsRaw := by omega
      fitsBits := by omega
      width := (badWidth_eq_none p).mp hwidth
      bounds := (badBounds_eq_none p).mp hbounds
      budget := by simpa [Profile.bvLen] using hbudget
      apart := (overlappingField_eq_none p).mp hoverlap
      adjustment := by omega }
  · intro h
    have hlen := h.atLeast
    have hraw := h.fitsRaw
    have hbits := h.fitsBits
    have hodd : ¬ p.frameLen.toNat % 2 = 1 := by simp [h.even]
    have hrange : ¬ (p.frameLen.toNat < 4 ∨ min c.rawCap Config.frameMax < p.frameLen.toNat) := by
      simp only [Config.frameMax]
      omega
    have hbudget : ¬ p.bvLen < p.width .systemcode + p.width .unitcode + p.width .id := Nat.not_lt.mpr h.budget
    have hadj : ¬ p.longThr.toNat < p.firstAdj.toNat := Nat.not_lt.mpr h.adjustment
    simp only [lockCheck, hodd, hrange, (badWidth_eq_none p).mpr h.width, (badBounds_eq_none p).mpr h.bounds, hbudget,
      (overlappingField_eq_none p).mpr h.apart, hadj, if_false]

/-! Built trains -/

/-- Vector position q lies in the slice of field n, and the bit of the field's value that goes there is set
(44_builder.md R146). -/
abbrev State.FieldBit (s : State) (n : FieldId) (q : Nat) : Prop :=
  s.prof.offset n ≤ q ∧ q < s.prof.offset n + s.prof.width n ∧
    (s.field n).toNat.testBit (s.prof.width n - 1 - (q - s.prof.offset n)) = true

theorem State.messageBit_iff (s : State) (q : Nat) : s.MessageBit q ↔ ∃ n, s.FieldBit n q := Iff.rfl

variable {s : State}

/-- Placing a field over a train writes the one pattern at the field's one-bits, and nothing else (44_builder.md R146). -/
theorem placeField_getD (n : FieldId) (train : List Word) (k : Nat)
    (hfit : 2 * (s.prof.offset n + s.prof.width n) < train.length) :
    (placeField s n train).getD k 0 =
      if 1 ≤ k ∧ s.FieldBit n ((k - 1) / 2) then (if k % 2 = 1 then s.prof.long else s.prof.short)
      else train.getD k 0 := by
  rw [placeField, setOneBits_getD _ _ _ _ _ _ _ hfit]
  refine if_congr (and_congr_right fun _ => and_congr_right fun _ => and_congr_right fun _ => ?_) rfl rfl
  rw [Nat.testBit_mod_two_pow]
  have hw : s.prof.width n - 1 - ((k - 1) / 2 - s.prof.offset n) < s.prof.width n := by omega
  simp [hw]

section LegalProfile

variable (hp : LegalProfile s.cfg s.prof)
include hp

/-- The slice of a field of a legal profile ends before the footer. -/
theorem LegalProfile.slice_fits (n : FieldId) : 2 * (s.prof.offset n + s.prof.width n) < s.prof.frameLen.toNat := by
  have hbound := hp.bounds n
  have hlen := hp.atLeast
  omega

/-- The entries of a built train: FTR_PULSE at the end, before it the fields over the zero train. -/
theorem builtTrain_getD (k : Nat) : (builtTrain s).getD k 0 =
    if k = s.prof.frameLen.toNat - 1 then s.prof.ftrPulse
    else if 1 ≤ k ∧ s.FieldBit .id ((k - 1) / 2) then (if k % 2 = 1 then s.prof.long else s.prof.short)
    else if 1 ≤ k ∧ s.FieldBit .unitcode ((k - 1) / 2) then (if k % 2 = 1 then s.prof.long else s.prof.short)
    else if 1 ≤ k ∧ s.FieldBit .systemcode ((k - 1) / 2) then (if k % 2 = 1 then s.prof.long else s.prof.short)
    else (zeroTrain s.prof).getD k 0 := by
  have hlen := hp.atLeast
  have hlast : s.prof.frameLen.toNat - 1 < s.prof.frameLen.toNat := by omega
  rw [builtTrain, getD_set, placeField_getD .id _ _ (by simpa using hp.slice_fits .id),
    placeField_getD .unitcode _ _ (by simpa using hp.slice_fits .unitcode),
    placeField_getD .systemcode _ _ (by simpa using hp.slice_fits .systemcode)]
  simp only [placeField_length, zeroTrain_length, hlast, and_true]

/-- The last pulse of a built train is the footer (44_builder.md R147). -/
theorem builtTrain_footer : (builtTrain s).getD (s.prof.frameLen.toNat - 1) 0 = s.prof.ftrPulse := by
  rw [builtTrain_getD hp, if_pos rfl]

/-- The first pulse of a built train is short (44_builder.md R144). -/
theorem builtTrain_header : (builtTrain s).getD 0 0 = s.prof.short := by
  have hlen := hp.atLeast
  rw [builtTrain_getD hp, if_neg (by omega), if_neg (by omega), if_neg (by omega), if_neg (by omega),
    zeroTrain_getD _ _ (by omega), if_pos (.inl rfl)]

/-- Before the footer, an entry whose vector position is a one of the message has the one pattern
(44_builder.md R146). -/
theorem builtTrain_getD_of_messageBit {k : Nat} (hk : 1 ≤ k) (hlast : k < s.prof.frameLen.toNat - 1)
    (hb : s.MessageBit ((k - 1) / 2)) :
    (builtTrain s).getD k 0 = if k % 2 = 1 then s.prof.long else s.prof.short := by
  obtain ⟨n, hn⟩ := hb
  have hbit : 1 ≤ k ∧ s.FieldBit n ((k - 1) / 2) := ⟨hk, hn⟩
  rw [builtTrain_getD hp, if_neg (by omega)]
  cases n with
  | id => rw [if_pos hbit]
  | unitcode => rw [if_pos hbit, ite_id]
  | systemcode => rw [if_pos hbit, ite_id, ite_id]

/-- Before the footer, an entry whose vector position is no one of the message has the zero pattern
(44_builder.md R145). -/
theorem builtTrain_getD_of_not_messageBit {k : Nat} (hk : 1 ≤ k) (hlast : k < s.prof.frameLen.toNat - 1)
    (hb : ¬ s.MessageBit ((k - 1) / 2)) :
    (builtTrain s).getD k 0 = if k % 2 = 1 then s.prof.short else s.prof.long := by
  have hn : ∀ n, ¬ (1 ≤ k ∧ s.FieldBit n ((k - 1) / 2)) := fun n h => hb ⟨n, h.2⟩
  rw [builtTrain_getD hp, if_neg (by omega), if_neg (hn _), if_neg (hn _), if_neg (hn _),
    zeroTrain_getD _ _ (by omega)]
  exact if_congr (by omega) rfl rfl

/-- Every symbol pair of a built train is long then short where the message has a one, else short then long
(44_builder.md R145, R146). -/
theorem builtTrain_pair {q : Nat} (hq : q < s.prof.bvLen) :
    (s.MessageBit q → (builtTrain s).getD (2 * q + 1) 0 = s.prof.long ∧
        (builtTrain s).getD (2 * q + 2) 0 = s.prof.short) ∧
      (¬ s.MessageBit q → (builtTrain s).getD (2 * q + 1) 0 = s.prof.short ∧
        (builtTrain s).getD (2 * q + 2) 0 = s.prof.long) := by
  have hlen := hp.atLeast
  have hlast : 2 * q + 2 < s.prof.frameLen.toNat - 1 := by
    unfold Profile.bvLen at hq
    omega
  have hfirst : (2 * q + 1 - 1) / 2 = q := by omega
  have hsecond : (2 * q + 2 - 1) / 2 = q := by omega
  constructor
  · intro hb
    rw [builtTrain_getD_of_messageBit hp (by omega) (by omega) (hfirst.symm ▸ hb),
      builtTrain_getD_of_messageBit hp (by omega) hlast (hsecond.symm ▸ hb), if_pos (by omega), if_neg (by omega)]
    exact ⟨rfl, rfl⟩
  · intro hb
    rw [builtTrain_getD_of_not_messageBit hp (by omega) (by omega) (hfirst.symm ▸ hb),
      builtTrain_getD_of_not_messageBit hp (by omega) hlast (hsecond.symm ▸ hb), if_pos (by omega), if_neg (by omega)]
    exact ⟨rfl, rfl⟩

end LegalProfile

end Sys2Proof.Machine

/-! Each named update keeps the invariant of reachable states; commands and host events are made of these. -/

namespace Sys2Proof.Machine

/-- Every register in its reset value satisfies the invariant (70_reset_and_hazards.md R190). -/
theorem State.resetWith_inv {c : Config} (h : c.wellFormed = true) : (State.resetWith c).Inv where
  config := h
  rawSize := List.length_replicate
  rawLenFits := Nat.zero_le _
  symbol := Nat.zero_le _
  result := .inl ⟨rfl, rfl, rfl⟩
  lockedLegal := nofun
  vectorHeld := nofun
  vectorEmpty _ := ⟨rfl, rfl⟩
  bitsAbove _ _ := BitVec.getLsbD_zero
  frameOk := nofun
  txReady := nofun

theorem classify_header_eq (p : Profile) (d : Word) : classify p d .header = .headerOk ↔ p.headerFits d := by
  simp [classify]

theorem classify_footer_eq (p : Profile) (d : Word) : classify p d .footer = .footerOk ↔ p.footerFits d := by
  simp [classify]

/-- Validation finds no error exactly where the frame passes the three checks (41_validator.md R110 to R113). -/
theorem validate_eq_none (s : State) : validate s = none ↔ s.FramePasses := by
  simp only [validate, ne_eq, classify_header_eq, classify_footer_eq]
  split_ifs with hlen hheader hfooter
  · exact iff_of_true rfl ⟨hlen, hheader, hfooter⟩
  · exact iff_of_false nofun fun h => hfooter h.2.2
  · exact iff_of_false nofun fun h => hheader h.2.1
  · exact iff_of_false nofun fun h => hlen h.1

/-- The symbol codes are 0 to 5 (30_encoding.md R90). -/
theorem Symbol.code_toNat_le (y : Symbol) : y.code.toNat ≤ 5 := by cases y <;> decide

namespace State.Inv

variable {s : State}

/-! Updates of what the invariant says nothing of -/

theorem respond (hi : s.Inv) (r : BusResponse) : (respond r s).Inv := { hi with }

theorem dropEvent (hi : s.Inv) : s.dropEvent.Inv := { hi with }

theorem ignoreAccess (hi : s.Inv) : (ignoreAccess s).Inv := { hi with }

theorem releaseRst (hi : s.Inv) : (releaseRst s).Inv := { hi with }

theorem busError (hi : s.Inv) : (busError s).Inv := { hi with }

theorem writeClsIn (hi : s.Inv) (v : Word) : State.Inv { s with clsIn := v } := { hi with }

theorem writeFieldPresent (hi : s.Inv) (v : BitVec 3) : State.Inv { s with fieldPresent := v } := { hi with }

theorem markPresent (hi : s.Inv) (n : FieldId) : (markPresent n s).Inv := { hi with }

theorem writeField (hi : s.Inv) (n : FieldId) (v : Word) : (writeField n v s).Inv := by
  cases n <;> exact { hi with }

theorem storeMessage (hi : s.Inv) (value : FieldId → Nat) : (storeMessage value s).Inv := { hi with }

/-! Updates of the host -/

theorem assertRst (hi : s.Inv) : (assertRst s).Inv := { State.resetWith_inv hi.config with }

/-- While unlocked, no flag that depends on the profile is set. -/
theorem writeProfile (hi : s.Inv) (hl : s.status.locked = false) (p : Profile) : State.Inv { s with prof := p } :=
  have absurdLock {P : Prop} (h : s.status.locked = true) : P := absurd (hl.symm.trans h) (by decide)
  { hi with
    lockedLegal := absurdLock
    vectorHeld := fun h => absurdLock (hi.vectorHeld h).1
    frameOk := fun h => absurdLock (hi.frameOk h).1
    txReady := fun h => absurdLock (hi.txReady h).1 }

/-- A write to RAW clears the flags that speak of the train (20_memory.md R70). -/
theorem writeRaw (hi : s.Inv) (k : Nat) (v : Word) : (clearTrainFlags (writeRaw k v s)).Inv :=
  { hi with
    rawSize := by simpa using hi.rawSize
    frameOk := nofun
    txReady := nofun }

/-- So does a write to RAW_LEN, which keeps it within RAW_CAP (20_memory.md R68, R70). -/
theorem writeRawLen (hi : s.Inv) {v : Word} (hv : v.toNat ≤ s.cfg.rawCap) :
    (clearTrainFlags { s with rawLen := v }).Inv :=
  { hi with
    rawLenFits := hv
    frameOk := nofun
    txReady := nofun }

/-! Updates of the commands -/

theorem complete (hi : s.Inv) : (complete s).Inv := { hi with result := .inl ⟨rfl, rfl, rfl⟩ }

theorem raise (hi : s.Inv) {e : ErrorCode} {n : BitVec 2} (h : e.IndexLegal n) : (raise e n s).Inv :=
  { hi with result := .inr ⟨e, rfl, rfl, rfl, h⟩ }

theorem setFrameOk (hi : s.Inv) {b : Bool} (h : b = true → s.status.locked = true ∧ s.FramePasses) :
    (setFrameOk b s).Inv :=
  { hi with frameOk := h }

theorem setLocked (hi : s.Inv) (h : LegalProfile s.cfg s.prof) : (setLocked s).Inv :=
  { hi with
    lockedLegal := fun _ => h
    vectorHeld := fun hb => ⟨rfl, (hi.vectorHeld hb).2⟩
    frameOk := fun hf => ⟨rfl, (hi.frameOk hf).2⟩
    txReady := fun ht => ⟨rfl, (hi.txReady ht).2⟩ }

theorem storeSymbol (hi : s.Inv) (y : Symbol) : (storeSymbol y s).Inv := { hi with symbol := y.code_toNat_le }

/-- A vector of the length the locked profile has fits BITS (10_state.md R48, R49). -/
theorem storeVector (hi : s.Inv) (hl : s.status.locked = true) {bv : List Bool} (hlen : bv.length = s.prof.bvLen) :
    (storeVector bv s).Inv := by
  have hmax := (hi.lockedLegal hl).fitsBits
  have hfit : bv.length ≤ 32 := by
    rw [hlen, Profile.bvLen]
    omega
  have hnat : (BitVec.ofNat 32 bv.length).toNat = bv.length := by
    rw [BitVec.toNat_ofNat]
    omega
  exact { hi with
    vectorHeld := fun _ => ⟨hl, hnat.trans hlen⟩
    vectorEmpty := nofun
    bitsAbove := fun q hq => by
      rw [storeVector_bitsLen, hnat] at hq
      rw [storeVector_bits, ofNat_packBits_getLsbD bv hfit, bitAt, List.getD_eq_default _ _ hq] }

/-- RAW holds the train after a BUILD under a legal profile (44_builder.md R148). -/
theorem trainBuilt_storeTrain (hi : s.Inv) (hl : s.status.locked = true) :
    (storeTrain (builtTrain s) s).TrainBuilt := by
  have hp := hi.lockedLegal hl
  have hlen := hp.atLeast
  have entry {k : Nat} (hk : k < s.prof.frameLen.toNat) :
      (Machine.storeTrain (builtTrain s) s).rawAt k = (builtTrain s).getD k 0 := by
    have hraw : k < s.raw.length := by
      rw [hi.rawSize]
      exact hk.trans_le hp.fitsRaw
    rw [State.rawAt, storeTrain_raw, overwrite_getD, builtTrain_length, if_pos ⟨hk, hraw⟩]
  have hheader := entry (show 0 < s.prof.frameLen.toNat by omega)
  have hfooter := entry (show s.prof.frameLen.toNat - 1 < s.prof.frameLen.toNat by omega)
  refine ⟨rfl, rfl, hheader.trans (builtTrain_header hp), hfooter.trans (builtTrain_footer hp), fun q hq => ?_⟩
  have hq : q < (s.prof.frameLen.toNat - 2) / 2 := hq
  obtain ⟨one, zero⟩ := builtTrain_pair hp hq
  have hfirst := entry (show 2 * q + 1 < s.prof.frameLen.toNat by omega)
  have hsecond := entry (show 2 * q + 2 < s.prof.frameLen.toNat by omega)
  rw [hfirst, hsecond]
  by_cases hb : s.MessageBit q
  · exact .inr (one hb)
  · exact .inl (zero hb)

theorem storeTrain (hi : s.Inv) (hl : s.status.locked = true) : (storeTrain (builtTrain s) s).Inv :=
  { hi with
    rawSize := by simpa using hi.rawSize
    rawLenFits := (hi.lockedLegal hl).fitsRaw
    frameOk := nofun
    txReady := fun _ => ⟨hl, hi.trainBuilt_storeTrain hl⟩ }

/-! Commands and host events -/

/-- What a successful command stores keeps the invariant. -/
theorem commandResult (hi : s.Inv) {i : Instr} (he : commandError i s = none) : (commandResult i s).Inv := by
  have locked {c} (h : lockedError s c = none) : s.status.locked = true := (lockedError_eq_none.mp h).1
  have passes (h : lockedError s ((validate s).map fun e => (e, 0)) = none) : s.FramePasses :=
    (validate_eq_none s).mp (Option.map_eq_none_iff.mp (lockedError_eq_none.mp h).2)
  cases i with
  | nop => exact hi
  | classifyHdr | classifyFtr | classifyData | classifyData1 => exact hi.storeSymbol _
  | validate => exact hi.setFrameOk fun _ => ⟨locked he, passes he⟩
  | demod => exact hi.storeVector (locked he) (demodVector_length s)
  | extract => exact hi.storeMessage _
  | build => exact hi.storeTrain (locked he)
  | decode =>
    have hv : (Machine.setFrameOk true s).Inv := hi.setFrameOk fun _ => ⟨locked he, passes he⟩
    exact (hv.storeVector (locked he) (demodVector_length s)).storeMessage _
  | lock =>
    simp only [commandError] at he
    split at he
    · cases he
    · exact hi.setLocked ((lockCheck_eq_none _ _).mp he)

/-- A write to CMD keeps the invariant. -/
theorem perform (hi : s.Inv) {w : Word} {t : State} (h : perform w s = .next t) : t.Inv := by
  rcases perform_result h with ⟨i, -, he, rfl⟩ | ⟨e, n, b, hn, hb, rfl⟩
  · exact (hi.commandResult he).complete
  · exact (hi.setFrameOk fun hb' => hi.frameOk (hb hb')).raise hn

/-- Every host event keeps the invariant. -/
theorem hostEvent (hi : s.Inv) {e : HostEvent} {t : State} (h : EventEffect s e t) : t.Inv := by
  cases h with
  | ignored => exact hi.ignoreAccess
  | badRead => exact hi.busError.respond _
  | read => exact hi.respond _
  | badWrite => exact hi.busError.respond _
  | profile a v q he hl => exact (hi.writeProfile hl _).respond _
  | rawLen v he hv => exact (hi.writeRawLen hv).respond _
  | command v _ he h => exact (hi.respond _).perform h
  | raw => exact (hi.writeRaw _ _).respond _
  | field => exact ((hi.writeField _ _).markPresent _).respond _
  | fieldPresent => exact (hi.writeFieldPresent _).respond _
  | clsIn => exact (hi.writeClsIn _).respond _
  | asserted => exact hi.assertRst
  | released => exact hi.releaseRst

end State.Inv

/-- Settles O45: the step is idle or takes one host event, and every host event keeps the invariant. -/
theorem everyStepKeepsInvariant : Obligations.EveryStepKeepsInvariant := by
  intro s t hi h
  rcases step_cases h with ⟨-, rfl⟩ | ⟨e, rest, -, h⟩
  · exact hi
  · exact hi.dropEvent.hostEvent (hostEvent_effect h)

end Sys2Proof.Machine

/-! The rules about commands and steps: which registers each of them writes (10_state.md). -/

namespace Sys2Proof.Machine

/-- A step that takes an event has one of the effects of that event. -/
theorem step_effect {s t : State} {e : HostEvent} {rest : List HostEvent} (hs : s.hostIn = e :: rest)
    (h : step s = .next t) : EventEffect s.dropEvent e t := by
  rcases step_cases h with ⟨hnil, -⟩ | ⟨e', rest', hcons, h⟩
  · cases hs.symm.trans hnil
  · cases hs.symm.trans hcons
    exact hostEvent_effect h

/-! Commands -/

/-- Settles O37: none of the stores a command is made of touches these registers. -/
theorem commandsKeepHostOperands : Obligations.CommandsKeepHostOperands := by
  intro w s t h
  cases perform_effect h <;> simp

/-- Settles O36: by the result of a command word, and by the effects of the other events. -/
theorem resultFieldsWrittenByCommands : Obligations.ResultFieldsWrittenByCommands := by
  refine ⟨fun w s t h => ?_, fun s t e rest hs hcmd hrst h => ?_, rfl, rfl, rfl, rfl⟩
  · rcases perform_result h with ⟨i, -, -, rfl⟩ | ⟨e, n, b, hn, -, rfl⟩
    · exact .inl ⟨rfl, rfl, rfl, rfl⟩
    · exact .inr ⟨rfl, e, rfl, rfl, rfl, hn⟩
  · cases step_effect hs h with
    | command v _ he => exact absurd he (hcmd v)
    | asserted he => exact absurd he hrst
    | field => simp
    | ignored | badRead | read | badWrite | profile | rawLen | raw | fieldPresent | clsIn | released =>
      exact ⟨rfl, rfl, rfl, rfl⟩

/-- The same state with other values of FRAME_OK and TX_READY. -/
def State.withTrainFlags (s : State) (frameOk txReady : Bool) : State :=
  { s with status := { s.status with frameOk := frameOk, txReady := txReady } }

theorem commandError_withTrainFlags (i : Instr) (s : State) (f r : Bool) :
    commandError i (s.withTrainFlags f r) = commandError i s := by
  cases i <;> rfl

theorem commandResult_withTrainFlags (i : Instr) (s : State) (f r : Bool) :
    ∃ f' r', commandResult i (s.withTrainFlags f r) = (commandResult i s).withTrainFlags f' r' := by
  cases i with
  | nop | classifyHdr | classifyFtr | classifyData | classifyData1 | demod | extract | lock => exact ⟨f, r, rfl⟩
  | validate | decode => exact ⟨true, r, rfl⟩
  | build => exact ⟨false, true, rfl⟩

theorem errorState_withTrainFlags (i : Instr) (s : State) (f r : Bool) :
    ∃ f' r', errorState i (s.withTrainFlags f r) = (errorState i s).withTrainFlags f' r' := by
  obtain ⟨b, -, hb⟩ := errorState_eq i s
  obtain ⟨b', -, hb'⟩ := errorState_eq i (s.withTrainFlags f r)
  exact ⟨b', r, by rw [hb, hb']; rfl⟩

/-- Settles O38: neither the error a command raises nor what it stores depends on the two flags. -/
theorem trainFlagsReadByNoCommand : Obligations.TrainFlagsReadByNoCommand := by
  intro i s t f r h
  rcases exec_cases h with ⟨he, rfl⟩ | ⟨e, n, he, rfl⟩
  · obtain ⟨f', r', hr⟩ := commandResult_withTrainFlags i s f r
    exact ⟨f', r', by
      rw [← commandError_withTrainFlags i s f r] at he
      exact (exec_of_noError he).trans (by rw [hr]; rfl)⟩
  · obtain ⟨f', r', hr⟩ := errorState_withTrainFlags i s f r
    exact ⟨f', r', by
      rw [← commandError_withTrainFlags i s f r] at he
      exact (exec_of_error he).trans (by rw [hr]; rfl)⟩

/-! Steps that run a command -/

/-- A write to CMD, taken while RST is released, is answered and performed (20_memory.md R71). -/
theorem step_of_cmdWrite {s : State} {w : Word} {rest : List HostEvent} (hs : s.hostIn = .write cmdAddr w :: rest)
    (hr : s.rstLine = false) : step s = perform w (respond .writeDone s.dropEvent) := by
  rw [step, hs]
  exact if_neg (by simp [hr])

theorem perform_of_decode {w : Word} {i : Instr} (h : decode w = .ok i) (s : State) : perform w s = exec i s := by
  rw [perform, h]

/-- Settles O5: the write is performed, and performing the word of a command runs it. -/
theorem stepRunsDecodedCommand : Obligations.StepRunsDecodedCommand := by
  intro s w rest i hs hr hw
  rw [step_of_cmdWrite hs hr, perform_of_decode hw, respond, State.dropEvent, hs, List.tail_cons]

/-- Settles O6: the number of a command's word is the word's own. -/
theorem fetchWordIsRunNext : Obligations.FetchWordIsRunNext := by
  intro s i
  have hword : BitVec.ofNat 32 ((encode i).toNat % 2 ^ 32) = encode i := by
    rw [Nat.mod_eq_of_lt (encode i).isLt, BitVec.ofNat_toNat, BitVec.setWidth_eq]
  have hs : (s.withFetchWord 32 (encode i).toNat).hostIn = .write cmdAddr (encode i) :: s.hostIn := by
    rw [State.withFetchWord, hword]
  rw [step_of_cmdWrite hs rfl, perform_of_decode (decode_encode i)]
  rfl

/-! Every step -/

/-- Settles O39: a profile write is refused while locked, and no command writes the profile or unlocks it. -/
theorem lockedProfileIsFrozen : Obligations.LockedProfileIsFrozen := by
  intro s t h hl hrst
  rcases step_cases h with ⟨-, rfl⟩ | ⟨e, rest, hs, h⟩
  · exact ⟨hl, rfl⟩
  · rw [hs] at hrst
    cases hostEvent_effect h with
    | command v _ he h => cases perform_effect h <;> simp [hl]
    | profile a v q he hu => exact absurd (hl.symm.trans hu) (by decide)
    | asserted he => exact absurd (congrArg some he) hrst
    | field => simp [hl]
    | ignored | badRead | read | badWrite | rawLen | raw | fieldPresent | clsIn | released => exact ⟨hl, rfl⟩

/-- Settles O40: only the two bus errors write BERR, and they are answered with an error response. -/
theorem busErrorFlagIsSticky : Obligations.BusErrorFlagIsSticky := by
  intro s t h
  rcases step_cases h with ⟨-, rfl⟩ | ⟨e, rest, hs, h⟩
  · exact ⟨fun hb _ => hb, fun hb hb' => absurd (hb.symm.trans hb') (by decide)⟩
  · have kept {u : State} (hu : u.status.berr = s.status.berr) :
        (s.status.berr = true → s.hostIn.head? ≠ some (.rst true) → u.status.berr = true) ∧
          (s.status.berr = false → u.status.berr = true →
            u.resp = some .writeError ∨ u.resp = some (.readError 0)) :=
      ⟨fun hb _ => hu.trans hb, fun hb hb' => absurd ((hu.trans hb).symm.trans hb') (by decide)⟩
    cases hostEvent_effect h with
    | badRead => exact ⟨fun _ _ => rfl, fun _ _ => .inr rfl⟩
    | badWrite => exact ⟨fun _ _ => rfl, fun _ _ => .inl rfl⟩
    | asserted he => exact ⟨fun _ hr => absurd (by rw [hs, he]; rfl) hr, nofun⟩
    | command v _ he h =>
      obtain ⟨-, -, -, hberr, -⟩ := commandsKeepHostOperands _ _ _ h
      exact kept hberr
    | field => exact kept (by simp)
    | ignored | read | profile | rawLen | raw | fieldPresent | clsIn | released => exact kept rfl

/-- The result registers and flags over a command word: each is left, or the word is that of its own command
(10_state.md R29, R30, R45, R48, R49, R52). -/
structure WritesOwnResults (w : Word) (s t : State) : Prop where
  clsOut : t.clsOut = s.clsOut ∨ w.toNat % 16 = 1
  bits : (t.bits = s.bits ∧ t.bitsLen = s.bitsLen) ∨ w = 0x00000003 ∨ w = 0x00000006
  txRepeat : t.txRepeat = s.txRepeat ∨ w = 0x00000005
  bitsValid : t.status.bitsValid = s.status.bitsValid ∨
    t.status.bitsValid = true ∧ (w = 0x00000003 ∨ w = 0x00000006)
  txReady : t.status.txReady = s.status.txReady ∨ t.status.txReady = true ∧ w = 0x00000005

theorem commandResult_writesOwnResults (i : Instr) (s : State) :
    WritesOwnResults (encode i) s (commandResult i s) where
  clsOut := by
    cases i with
    | classifyHdr | classifyFtr | classifyData | classifyData1 => exact .inr rfl
    | nop | validate | demod | extract | build | decode | lock => exact .inl rfl
  bits := by
    cases i with
    | demod => exact .inr (.inl rfl)
    | decode => exact .inr (.inr rfl)
    | nop | classifyHdr | classifyFtr | classifyData | classifyData1 | validate | extract | build | lock =>
      exact .inl ⟨rfl, rfl⟩
  txRepeat := by
    cases i with
    | build => exact .inr rfl
    | nop | classifyHdr | classifyFtr | classifyData | classifyData1 | validate | demod | extract | decode | lock =>
      exact .inl rfl
  bitsValid := by
    cases i with
    | demod => exact .inr ⟨rfl, .inl rfl⟩
    | decode => exact .inr ⟨rfl, .inr rfl⟩
    | nop | classifyHdr | classifyFtr | classifyData | classifyData1 | validate | extract | build | lock =>
      exact .inl rfl
  txReady := by
    cases i with
    | build => exact .inr ⟨rfl, rfl⟩
    | nop | classifyHdr | classifyFtr | classifyData | classifyData1 | validate | demod | extract | decode | lock =>
      exact .inl rfl

theorem perform_writesOwnResults {w : Word} {s t : State} (h : perform w s = .next t) : WritesOwnResults w s t := by
  rcases perform_result h with ⟨i, rfl, -, rfl⟩ | ⟨e, n, b, -, -, rfl⟩
  · exact { commandResult_writesOwnResults i s with }
  · exact ⟨.inl rfl, .inl ⟨rfl, rfl⟩, .inl rfl, .inl rfl, .inl rfl⟩

/-- The result registers and flags over a step that takes a host event: the assertion of RST resets the flags, a write
to CMD is a command word, a write to RAW or RAW_LEN clears TX_READY, and all else leaves them. -/
theorem eventEffect_results {s t : State} {e : HostEvent} (h : EventEffect s e t) :
    (e = .rst true ∧ t.status = .reset) ∨ (∃ w, e = .write 0x001 w ∧ WritesOwnResults w s t) ∨
      t.clsOut = s.clsOut ∧ t.bits = s.bits ∧ t.bitsLen = s.bitsLen ∧ t.txRepeat = s.txRepeat ∧
        t.status.bitsValid = s.status.bitsValid ∧
        (t.status.txReady = s.status.txReady ∨
          t.status.txReady = false ∧ ∃ a v, e = .write a v ∧ (a = 0x005 ∨ 0x100 ≤ a.toNat)) := by
  cases h with
  | asserted he => exact .inl ⟨he, rfl⟩
  | command v _ he h => exact .inr (.inl ⟨v, he, { perform_writesOwnResults h with }⟩)
  | rawLen v he => exact .inr (.inr ⟨rfl, rfl, rfl, rfl, rfl, .inr ⟨rfl, 0x005, v, he, .inl rfl⟩⟩)
  | raw a v _ he ha => exact .inr (.inr ⟨rfl, rfl, rfl, rfl, rfl, .inr ⟨rfl, a, v, he, .inr ha⟩⟩)
  | field => simp
  | ignored | badRead | read | badWrite | profile | fieldPresent | clsIn | released =>
    exact .inr (.inr ⟨rfl, rfl, rfl, rfl, rfl, .inl rfl⟩)

/-- Settles O42: a result register that a step changes is changed by a write of its own command's word. -/
theorem resultRegistersHaveOneWriter : Obligations.ResultRegistersHaveOneWriter := by
  intro s t e rest hs h hrst
  rcases eventEffect_results (step_effect hs h) with ⟨he, -⟩ | ⟨w, rfl, hw⟩ | ⟨hcls, hbits, hlen, hrep, -, -⟩
  · exact absurd he hrst
  · refine ⟨fun hne => ?_, fun hne => ?_, fun hne => ?_⟩
    · exact ⟨w, rfl, hw.clsOut.resolve_left hne⟩
    · exact (hw.bits.resolve_left (not_and_or.mpr hne)).imp (congrArg _) (congrArg _)
    · exact congrArg _ (hw.txRepeat.resolve_left hne)
  · exact ⟨fun hne => absurd hcls hne, fun hne => hne.elim (absurd hbits) (absurd hlen), fun hne => absurd hrep hne⟩

/-- Settles O41: each flag is left, or written as `eventEffect_results` says. -/
theorem resultFlagsChangeAsStated : Obligations.ResultFlagsChangeAsStated := by
  intro s t e rest hs h
  have clash {b : Bool} {P : Prop} (h1 : b = true) (h0 : b = false) : P := absurd (h1.symm.trans h0) (by decide)
  rcases eventEffect_results (step_effect hs h) with ⟨rfl, ht⟩ | ⟨w, rfl, hw⟩ | ⟨-, -, -, -, hvalid, hready⟩
  · rw [ht]
    exact ⟨fun _ hr => absurd rfl hr, fun _ hb => clash hb rfl, fun _ _ => .inl rfl, fun _ hb => clash hb rfl⟩
  · refine ⟨fun hb _ => ?_, fun hb hb' => ?_, fun hr hr' => ?_, fun hr hr' => ?_⟩
    · exact hw.bitsValid.elim (fun he => he.trans hb) (fun h => h.1)
    · exact hw.bitsValid.elim (fun he => clash hb' (he.trans hb)) (fun h => h.2.imp (congrArg _) (congrArg _))
    · exact hw.txReady.elim (fun he => clash (he.trans hr) hr') (fun h => clash h.1 hr')
    · exact hw.txReady.elim (fun he => clash hr' (he.trans hr)) (fun h => congrArg _ h.2)
  · refine ⟨fun hb _ => hvalid.trans hb, fun hb hb' => clash hb' (hvalid.trans hb), fun hr hr' => ?_, fun hr hr' => ?_⟩
    · exact hready.elim (fun he => clash (he.trans hr) hr') (fun h => .inr h.2)
    · exact hready.elim (fun he => clash hr' (he.trans hr)) (fun h => clash hr' h.1)

end Sys2Proof.Machine

/-! The parameters: no step changes them, and no step reads HOST_BASE or HOST_BYTE_ORDER
(93_implementation_defined.md I11, I12). -/

namespace Sys2Proof.Machine

section Placed

variable (base : Nat) (order : Vector (Fin 4) 4) {s t : State}

theorem commandError_placedAt (i : Instr) (s : State) :
    commandError i (s.placedAt base order) = commandError i s := by
  cases i <;> rfl

theorem commandResult_placedAt (i : Instr) (s : State) :
    commandResult i (s.placedAt base order) = (commandResult i s).placedAt base order := by
  cases i <;> rfl

theorem errorState_placedAt (i : Instr) (s : State) :
    errorState i (s.placedAt base order) = (errorState i s).placedAt base order := by
  cases i with
  | validate | decode =>
    exact (apply_ite (State.placedAt · base order) (s.status.locked = true) (setFrameOk false s) s).symm
  | nop | classifyHdr | classifyFtr | classifyData | classifyData1 | demod | extract | build | lock => rfl

theorem exec_placedAt {i : Instr} (h : exec i s = .next t) :
    exec i (s.placedAt base order) = .next (t.placedAt base order) := by
  rcases exec_cases h with ⟨he, rfl⟩ | ⟨e, n, he, rfl⟩
  · rw [exec_of_noError ((commandError_placedAt base order i s).trans he), commandResult_placedAt]
    rfl
  · rw [exec_of_error ((commandError_placedAt base order i s).trans he), errorState_placedAt]
    rfl

theorem perform_placedAt {w : Word} (h : perform w s = .next t) :
    perform w (s.placedAt base order) = .next (t.placedAt base order) := by
  unfold perform at h ⊢
  cases hw : decode w with
  | error e =>
    rw [hw] at h
    cases h
    rfl
  | ok i =>
    rw [hw] at h
    exact exec_placedAt base order h

theorem writeReg_placedAt {v : Word} {r : Reg} (h : writeReg v s r = .next t) :
    writeReg v (s.placedAt base order) r = .next (t.placedAt base order) := by
  cases r with
  | cmd => exact perform_placedAt base order h
  | prof | rawLen =>
    simp only [writeReg] at h
    split at h <;> cases h
    · exact if_pos ‹_›
    · exact if_neg ‹_›
  | field n => cases n <;> cases h <;> rfl
  | id | status | clsIn | clsOut | bits | bitsLen | txRepeat | fieldPresent | raw =>
    cases h
    rfl

theorem busWrite_placedAt {a : Addr} {v : Word} (h : busWrite a v s = .next t) :
    busWrite a v (s.placedAt base order) = .next (t.placedAt base order) := by
  have hmap : regAt (s.placedAt base order).cfg a = regAt s.cfg a := rfl
  rcases busWrite_cases h with ⟨hr, rfl⟩ | ⟨r, hr, h⟩
  · rw [busWrite, hmap, hr]
    rfl
  · rw [busWrite, hmap, hr]
    exact writeReg_placedAt base order h

theorem readReg_placedAt (s : State) (r : Reg) : readReg (s.placedAt base order) r = readReg s r := by
  cases r with
  | field n => cases n <;> rfl
  | id | cmd | status | clsIn | clsOut | rawLen | bits | bitsLen | txRepeat | fieldPresent | prof | raw => rfl

theorem busRead_placedAt (a : Addr) (s : State) :
    busRead a (s.placedAt base order) = (busRead a s).placedAt base order := by
  have hmap : regAt (s.placedAt base order).cfg a = regAt s.cfg a := rfl
  rcases busRead_cases a s with ⟨hr, hb⟩ | ⟨r, hr, hb⟩
  · rw [hb, busRead, hmap, hr]
    rfl
  · rw [hb, busRead, hmap, hr]
    simp only [readReg_placedAt]
    rfl

theorem hostEvent_placedAt {e : HostEvent} (h : hostEvent s e = .next t) :
    hostEvent (s.placedAt base order) e = .next (t.placedAt base order) := by
  have released (hr : s.rstLine = false) : ¬ (s.placedAt base order).rstLine = true := fun hr' =>
    absurd (hr.symm.trans hr') (by decide)
  rcases hostEvent_cases h with ⟨hr, he, rfl⟩ | ⟨a, rfl, hr, rfl⟩ | ⟨a, v, rfl, hr, h⟩ | ⟨rfl, rfl⟩ | ⟨rfl, rfl⟩
  · cases e with
    | read | write => exact if_pos hr
    | rst b => exact absurd rfl (he b)
  · rw [← busRead_placedAt]
    exact if_neg (released hr)
  · exact (if_neg (released hr)).trans (busWrite_placedAt base order h)
  · rfl
  · rfl

theorem step_placedAt (h : step s = .next t) : step (s.placedAt base order) = .next (t.placedAt base order) := by
  have hqueue : (s.placedAt base order).hostIn = s.hostIn := rfl
  rcases step_cases h with ⟨hs, rfl⟩ | ⟨e, rest, hs, h⟩
  · rw [step, hqueue, hs]
  · rw [step, hqueue, hs]
    exact hostEvent_placedAt base order h

/-- No host event changes the parameters (10_state.md R20). -/
theorem eventEffect_cfg {e : HostEvent} (h : EventEffect s e t) : t.cfg = s.cfg := by
  cases h with
  | command v _ he h =>
    obtain ⟨hcfg, -⟩ := commandsKeepHostOperands _ _ _ h
    exact hcfg
  | field => simp
  | ignored | badRead | read | badWrite | profile | rawLen | raw | fieldPresent | clsIn | asserted | released => rfl

end Placed

/-- Settles O43: the parameters stay, and `step_placedAt` moves a step to the other place. -/
theorem parametersAreFixedAndPlacementInvisible : Obligations.ParametersAreFixedAndPlacementInvisible := by
  intro s t h
  refine ⟨?_, fun base order => step_placedAt base order h⟩
  rcases step_cases h with ⟨-, rfl⟩ | ⟨e, rest, -, h⟩
  · rfl
  · exact (eventEffect_cfg (hostEvent_effect h)).trans (dropEvent_cfg s)

end Sys2Proof.Machine

/-! The STATUS register as the host sees it (10_state.md R25). -/

namespace Sys2Proof.Machine

/-- A field of a word, read off the word as a number. -/
theorem extractLsb'_eq_of_toNat {w : Word} {start len : Nat} {x : BitVec len}
    (h : w.toNat / 2 ^ start % 2 ^ len = x.toNat) : w.extractLsb' start len = x := by
  apply BitVec.eq_of_toNat_eq
  rw [BitVec.extractLsb'_toNat, Nat.shiftRight_eq_div_pow, h]

/-- A bit of a word, read off the word as a number. -/
theorem getLsbD_eq_of_toNat {w : Word} {k : Nat} {b : Bool} (h : w.toNat / 2 ^ k % 2 = b.toNat) : w.getLsbD k = b := by
  rw [BitVec.getLsbD, Nat.testBit_eq_decide_div_mod_eq, h]
  cases b <;> rfl

/-- The fields of STATUS where 10_state.md R25 puts them, and 0 between them. -/
theorem Status.toWord_fields (st : Status) :
    st.toWord.getLsbD 0 = st.ok ∧ st.toWord.extractLsb' 1 3 = st.eclass ∧ st.toWord.extractLsb' 4 2 = st.eidx ∧
      st.toWord.extractLsb' 6 2 = 0 ∧ st.toWord.extractLsb' 8 8 = st.ecode ∧ st.toWord.getLsbD 16 = st.locked ∧
      st.toWord.getLsbD 17 = st.frameOk ∧ st.toWord.getLsbD 18 = st.bitsValid ∧ st.toWord.getLsbD 19 = st.txReady ∧
      st.toWord.getLsbD 20 = st.berr ∧ st.toWord.extractLsb' 21 10 = 0 ∧ st.toWord.getLsbD 31 = false := by
  have hclass := st.eclass.isLt
  have hidx := st.eidx.isLt
  have hcode := st.ecode.isLt
  have hok := st.ok.toNat_le
  have hlocked := st.locked.toNat_le
  have hframe := st.frameOk.toNat_le
  have hbits := st.bitsValid.toNat_le
  have htx := st.txReady.toNat_le
  have hberr := st.berr.toNat_le
  refine ⟨getLsbD_eq_of_toNat ?_, extractLsb'_eq_of_toNat ?_, extractLsb'_eq_of_toNat ?_, extractLsb'_eq_of_toNat ?_,
    extractLsb'_eq_of_toNat ?_, getLsbD_eq_of_toNat ?_, getLsbD_eq_of_toNat ?_, getLsbD_eq_of_toNat ?_,
    getLsbD_eq_of_toNat ?_, getLsbD_eq_of_toNat ?_, extractLsb'_eq_of_toNat ?_, getLsbD_eq_of_toNat ?_⟩
  all_goals
    simp only [Status.toWord_toNat, BitVec.ofNat_eq_ofNat, BitVec.toNat_ofNat, Nat.zero_mod, Bool.toNat_false]
    omega

/-- Settles O52: by the fields of the word; the address 0x002 names STATUS, whose writes are refused. -/
theorem statusWordLayout : Obligations.StatusWordLayout :=
  ⟨fun s => s.status.toWord_fields, fun _ _ => rfl, by decide⟩

end Sys2Proof.Machine

/-! The address map, read from the registers and from the addresses (20_memory.md R62, R63). -/

namespace Sys2Proof.Machine

variable {c : Config} {a : Addr} {r : Reg}

/-- The address of a register that is no RAW entry names it, whatever RAW_CAP is (20_memory.md R62). -/
theorem regAt_addr (c : Config) (hr : ∀ k, r ≠ .raw k) : regAt c r.addr = some r := by
  cases r with
  | raw k => exact absurd rfl (hr k)
  | field n => cases n <;> rfl
  | prof q =>
    cases q with
    | fieldSpec n => cases n <;> rfl
    | frameLen | hdrMin | hdrMax | ftrMin | ftrMax | longThr | firstAdj | short | long | ftrPulse | repeatCount => rfl
  | id | cmd | status | clsIn | clsOut | rawLen | bits | bitsLen | txRepeat | fieldPresent => rfl

/-- An address of the RAW window names the entry at its distance from RAW[0] (20_memory.md R63). -/
theorem regAt_of_rawWindow (hlow : 0x100 ≤ a.toNat) (hhigh : a.toNat < 0x100 + c.rawCap) :
    regAt c a = some (.raw (a.toNat - 0x100)) := by
  unfold regAt rawBase
  rw [if_neg (by omega), if_pos (by omega)]

/-- The legal RAW window lies within the 12 address bits (00_scope.md R6, 20_memory.md R60). -/
theorem Reg.raw_addr_toNat (hc : c.wellFormed = true) {k : Nat} (hk : k < c.rawCap) :
    (Reg.raw k).addr.toNat = 0x100 + k := by
  have hcap := (of_decide_eq_true hc).2
  exact Nat.mod_eq_of_lt (by simp only [rawBase]; omega)

/-- The address of a RAW entry below a legal RAW_CAP names it (20_memory.md R63). -/
theorem regAt_raw_addr (hc : c.wellFormed = true) {k : Nat} (hk : k < c.rawCap) :
    regAt c (Reg.raw k).addr = some (.raw k) := by
  have haddr := Reg.raw_addr_toNat hc hk
  rw [regAt_of_rawWindow (by omega) (by omega), haddr, Nat.add_sub_cancel_left]

/-- The mapped addresses below the RAW window (20_memory.md R62). -/
theorem lowReg_mapped {n : Nat} (h : lowReg n = some r) :
    n ≤ 0x008 ∨ 0x010 ≤ n ∧ n ≤ 0x013 ∨ 0x020 ≤ n ∧ n ≤ 0x02D := by
  unfold lowReg at h
  split at h <;> cases h <;> decide

/-- The mapped addresses (20_memory.md R62, R63). -/
theorem regAt_mapped (h : regAt c a = some r) :
    a.toNat ≤ 0x008 ∨ 0x010 ≤ a.toNat ∧ a.toNat ≤ 0x013 ∨ 0x020 ≤ a.toNat ∧ a.toNat ≤ 0x02D ∨
      0x100 ≤ a.toNat ∧ a.toNat < 0x100 + c.rawCap := by
  unfold regAt rawBase at h
  split at h
  · have hlow := lowReg_mapped h
    omega
  · split at h
    · omega
    · cases h

/-- The addresses 0x020 to 0x02D are those of the profile registers (20_memory.md R62). -/
theorem regAt_profileRange (c : Config) (hlow : 0x020 ≤ a.toNat) (hhigh : a.toNat ≤ 0x02D) :
    ∃ q, regAt c a = some (.prof q) := by
  rw [regAt, if_pos (by simp only [rawBase]; omega)]
  generalize a.toNat = n at hlow hhigh ⊢
  interval_cases n <;> exact ⟨_, rfl⟩

/-- Settles O49: a register's address names it, and no other address does. -/
theorem addressesNameOneRegister : Obligations.AddressesNameOneRegister := by
  intro c hc a r
  constructor
  · intro h
    by_cases hr : ∀ k, r ≠ .raw k
    · exact ⟨(addr_of_regAt h hr).symm, fun k hk => absurd hk (hr k)⟩
    · push Not at hr
      obtain ⟨k, rfl⟩ := hr
      obtain ⟨hlow, hdist, hk⟩ := rawWindow_of_regAt h
      have haddr := Reg.raw_addr_toNat hc hk
      exact ⟨BitVec.eq_of_toNat_eq (by omega), by rintro _ ⟨⟩; exact hk⟩
  · rintro ⟨rfl, hraw⟩
    by_cases hr : ∀ k, r ≠ .raw k
    · exact regAt_addr c hr
    · push Not at hr
      obtain ⟨k, rfl⟩ := hr
      exact regAt_raw_addr hc (hraw k rfl)

/-- Settles O50: the listed addresses by evaluation, the unmapped ranges since no mapped address lies in them. -/
theorem addressMapAsListed : Obligations.AddressMapAsListed := by
  intro c
  have unmapped {a : Addr} (h : ∀ r, regAt c a ≠ some r) : regAt c a = none := Option.eq_none_iff_forall_ne_some.2 h
  refine ⟨rfl, rfl, rfl, rfl, rfl, rfl, rfl, rfl, rfl, rfl, rfl, rfl, rfl, rfl, rfl, rfl, rfl, rfl, rfl, rfl, rfl, rfl,
    rfl, rfl, rfl, rfl, rfl, fun a => ⟨?_, ?_, ?_, regAt_of_rawWindow, ?_⟩⟩
  all_goals
    intros
    refine unmapped fun r hr => ?_
    have hmapped := regAt_mapped hr
    omega

end Sys2Proof.Machine

/-! What a profile register reads after a write to a profile register (20_memory.md R69, R70). -/

namespace Sys2Proof.Machine

variable (p : Profile) (v : Word) {q r : ProfReg}

/-- A write to a FieldSpec register stores that FieldSpec and leaves the two others. -/
theorem Profile.spec_write_fieldSpec (m n : FieldId) :
    (p.write v (.fieldSpec m)).spec n = if n = m then .ofWord v else p.spec n := by
  cases m <;> cases n <;> rfl

/-- A profile register reads as before after a write to another one (20_memory.md R70). -/
theorem Profile.read_write_of_ne (h : r ≠ q) : (p.write v q).read r = p.read r := by
  cases q with
  | fieldSpec m =>
    cases r with
    | fieldSpec n =>
      have hne : n ≠ m := fun hn => h (congrArg _ hn)
      rw [Profile.read, spec_write_fieldSpec, if_neg hne, Profile.read]
    | frameLen | hdrMin | hdrMax | ftrMin | ftrMax | longThr | firstAdj | short | long | ftrPulse | repeatCount =>
      cases m <;> rfl
  | frameLen | hdrMin | hdrMax | ftrMin | ftrMax | longThr | firstAdj | short | long | ftrPulse | repeatCount =>
    cases r <;> try rfl
    exact absurd rfl h

/-- A FieldSpec register reads back bits 15:0 of the written word (20_memory.md R69). -/
theorem Profile.read_write_fieldSpec (n : FieldId) :
    ((p.write v (.fieldSpec n)).read (.fieldSpec n)).toNat = v.toNat % 65536 := by
  rw [Profile.read, spec_write_fieldSpec, if_pos rfl, FieldSpec.ofWord_toWord_toNat]

/-- Settles O55: the written register by its kind, the others by `Profile.read_write_of_ne`. -/
theorem profileWritesStoreOneRegister : Obligations.ProfileWritesStoreOneRegister := by
  intro p v q r
  by_cases h : r = q
  · subst h
    rw [if_pos rfl]
    cases r with
    | fieldSpec n => exact p.read_write_fieldSpec v n
    | frameLen | hdrMin | hdrMax | ftrMin | ftrMax | longThr | firstAdj | short | long | ftrPulse | repeatCount => rfl
  · rw [if_neg h, p.read_write_of_ne v h]

end Sys2Proof.Machine

/-! Host reads and writes: the answer and the next state of each (20_memory.md R67 to R70). -/

namespace Sys2Proof.Machine

variable {s : State} {a : Addr} {r : Reg} {v : Word} {rest : List HostEvent}

/-! Accesses of a mapped and of an unmapped address -/

theorem busRead_of_mapped (h : regAt s.cfg a = some r) : busRead a s = respond (.readData (readReg s r)) s := by
  rw [busRead, h]

theorem busRead_of_unmapped (h : regAt s.cfg a = none) : busRead a s = respond (.readError 0) (busError s) := by
  rw [busRead, h]

theorem busWrite_of_mapped (h : regAt s.cfg a = some r) : busWrite a v s = writeReg v s r := by rw [busWrite, h]

theorem busWrite_of_unmapped (h : regAt s.cfg a = none) : busWrite a v s = writeRejected s := by rw [busWrite, h]

theorem writeReg_prof_of_unlocked (q : ProfReg) (h : s.status.locked = false) :
    writeReg v s (.prof q) = .next (respond .writeDone { s with prof := s.prof.write v q }) := if_neg (by simp [h])

theorem writeReg_prof_of_locked (q : ProfReg) (h : s.status.locked = true) :
    writeReg v s (.prof q) = writeRejected s := if_pos h

/-! Steps that take an access while RST is released -/

theorem State.dropEvent_eq {e : HostEvent} (hs : s.hostIn = e :: rest) : s.dropEvent = { s with hostIn := rest } := by
  rw [State.dropEvent, hs, List.tail_cons]

theorem step_of_read (hs : s.hostIn = .read a :: rest) (hr : s.rstLine = false) :
    step s = .next (busRead a { s with hostIn := rest }) := by
  rw [← State.dropEvent_eq hs, step, hs]
  exact if_neg (by simp [hr])

theorem step_of_write (hs : s.hostIn = .write a v :: rest) (hr : s.rstLine = false) :
    step s = busWrite a v { s with hostIn := rest } := by
  rw [← State.dropEvent_eq hs, step, hs]
  exact if_neg (by simp [hr])

/-- A read of an unmapped address is a bus error (20_memory.md R68). -/
theorem step_of_unmappedRead (hs : s.hostIn = .read a :: rest) (hr : s.rstLine = false) (h : regAt s.cfg a = none) :
    step s = .next { s with
      hostIn := rest, resp := some (.readError 0), status := { s.status with berr := true } } := by
  rw [step_of_read hs hr, busRead_of_unmapped (s := { s with hostIn := rest }) h]
  rfl

/-- A write of a mapped address is the write of its register (20_memory.md R70). -/
theorem step_of_mappedWrite (hs : s.hostIn = .write a v :: rest) (hr : s.rstLine = false)
    (h : regAt s.cfg a = some r) : step s = writeReg v { s with hostIn := rest } r :=
  (step_of_write hs hr).trans (busWrite_of_mapped h)

/-! The words the registers read -/

theorem readReg_clsOut_toNat (s : State) : (readReg s .clsOut).toNat = s.clsOut.toNat :=
  BitVec.toNat_setWidth_of_le (by decide)

theorem readReg_fieldPresent_toNat (s : State) : (readReg s .fieldPresent).toNat = s.fieldPresent.toNat :=
  BitVec.toNat_setWidth_of_le (by decide)

theorem readReg_fieldSpec_toNat (s : State) (n : FieldId) :
    (readReg s (.prof (.fieldSpec n))).toNat = s.prof.offset n + 256 * s.prof.width n :=
  FieldSpec.toWord_toNat (s.prof.spec n)

/-- A RAW entry reads the word stored in it, and the others read as before (10_state.md R47). -/
theorem rawAt_writeRaw {k : Nat} (v : Word) (j : Nat) (hk : k < s.raw.length) :
    (writeRaw k v s).rawAt j = if j = k then v else s.rawAt j := by
  rw [State.rawAt, writeRaw_raw, getD_set]
  simp only [hk, and_true, State.rawAt]

/-- Settles O57: under the invariant RAW is long enough to hold the written entry. -/
theorem rawReadsLatestWrite : Obligations.RawReadsLatestWrite := by
  intro s k j v hi hk hj
  refine ⟨respond .writeDone (clearTrainFlags (writeRaw k v s)), busWrite_of_mapped (regAt_raw_addr hi.config hk), ?_⟩
  rintro _ rfl
  have hmap : regAt (respond .writeDone (clearTrainFlags (writeRaw k v s))).cfg (Reg.raw j).addr = some (.raw j) :=
    regAt_raw_addr hi.config hj
  rw [busRead_of_mapped hmap, ← rawAt_writeRaw v j (hi.rawSize ▸ hk)]
  rfl

/-- Settles O51: by the two kinds of read, and by the word of each register. -/
theorem readsHaveNoSideEffect : Obligations.ReadsHaveNoSideEffect := by
  refine ⟨fun s a rest hs hr => ⟨fun r h => ?_, step_of_unmappedRead hs hr⟩, fun s => ?_⟩
  · rw [step_of_read hs hr, busRead_of_mapped (s := { s with hostIn := rest }) h]
    rfl
  · exact ⟨rfl, rfl, rfl, rfl, rfl, rfl, rfl, fun _ => rfl, fun _ => rfl, readReg_clsOut_toNat s,
      readReg_fieldPresent_toNat s, rfl, rfl, rfl, rfl, rfl, rfl, rfl, rfl, rfl, rfl, rfl, readReg_fieldSpec_toNat s⟩

/-- Settles O53: each kind of write is rejected, whether by the map, the register, the lock or RAW_CAP. -/
theorem busErrorsOnlySetBerr : Obligations.BusErrorsOnlySetBerr := by
  refine ⟨fun s a rest => step_of_unmappedRead, fun s a v rest hs hr h => ?_⟩
  suffices hrej : busWrite a v { s with hostIn := rest } = writeRejected { s with hostIn := rest } by
    rw [step_of_write hs hr, hrej]
    rfl
  rcases h with h | rfl | rfl | rfl | rfl | rfl | rfl | ⟨hlow, hhigh, hl⟩ | ⟨rfl, hv⟩
  · exact busWrite_of_unmapped h
  iterate 6 · rfl
  · obtain ⟨q, hq⟩ := regAt_profileRange s.cfg hlow hhigh
    exact (busWrite_of_mapped (s := { s with hostIn := rest }) hq).trans (writeReg_prof_of_locked q hl)
  · exact if_pos hv

/-- Settles O54: the write of each register, at the address that names it. -/
theorem writesHaveStatedEffects : Obligations.WritesHaveStatedEffects := by
  intro s a v rest hs hr
  have write {b : Addr} {r : Reg} (ha : a = b) (h : regAt s.cfg b = some r) :
      step s = writeReg v { s with hostIn := rest } r := step_of_mappedWrite hs hr (ha ▸ h)
  exact ⟨fun k h => write rfl h, fun ha hv => (write ha rfl).trans (if_neg (Nat.not_lt.2 hv)), fun ha => write ha rfl,
    fun ha => write ha rfl, fun ha => write ha rfl, fun ha => write ha rfl, fun ha => write ha rfl,
    fun q h hl => (write rfl h).trans (writeReg_prof_of_unlocked q hl), fun ha => write ha rfl⟩

/-- Settles O56: FIELD_PRESENT holds three bits, and a FieldSpec register two bytes. -/
theorem reservedBitsIgnoreWrites : Obligations.ReservedBitsIgnoreWrites := by
  refine ⟨fun s v => ⟨_, rfl, rfl, ?_⟩, fun s v n hl => ?_, fun s => ⟨?_, fun n => ?_⟩⟩
  · rw [readReg_fieldPresent_toNat]
    exact BitVec.toNat_setWidth 3 v
  · have hmap : regAt s.cfg (Reg.prof (.fieldSpec n)).addr = some (.prof (.fieldSpec n)) := regAt_addr _ (by simp)
    exact ⟨_, (busWrite_of_mapped hmap).trans (writeReg_prof_of_unlocked _ hl), rfl, s.prof.read_write_fieldSpec v n⟩
  · rw [readReg_fieldPresent_toNat]
    exact s.fieldPresent.isLt
  · have hoffset : s.prof.offset n < 256 := (s.prof.spec n).offset.isLt
    have hwidth : s.prof.width n < 256 := (s.prof.spec n).width.isLt
    rw [readReg_fieldSpec_toNat]
    omega

end Sys2Proof.Machine

/-! Command words (30_encoding.md): which words the decoder accepts, what the others raise, and DECODE as the row of
its three parts. -/

namespace Sys2Proof

/-- Every command's word passes the checks on the word (30_encoding.md R80, R92). -/
theorem commandWordWellFormed_encode (i : Instr) : commandWordWellFormed (encode i) = true := by cases i <;> decide

/-- A word that passes the checks is the word of the command its fields name (30_encoding.md R80). -/
theorem decode_of_wellFormed {w : Word} (h : commandWordWellFormed w = true) :
    decode w = .ok (instrOf (opcField w) (subField w)) := by
  obtain ⟨hopc, hrsv, hsub, hclass⟩ := of_decide_eq_true h
  rw [decode_eq, if_neg (by omega), if_neg (not_not.mpr hrsv), if_neg fun ⟨hne, hset⟩ => hset (hsub hne),
    if_neg fun ⟨heq, hge⟩ => by have := hclass heq; omega]

variable {w : Word}

theorem decode_illegalOpcode (hopc : 8 ≤ w.toNat % 16) : decode w = .error .illegalOpcode := by
  rw [decode_eq, if_pos hopc]

theorem decode_reservedBits (hopc : w.toNat % 16 < 8)
    (h : w.toNat / 256 ≠ 0 ∨ w.toNat % 16 ≠ 1 ∧ w.toNat / 16 % 16 ≠ 0) : decode w = .error .reservedBits := by
  rw [decode_eq, if_neg (Nat.not_le.mpr hopc)]
  by_cases hrsv : w.toNat / 256 = 0
  · rw [if_neg (not_not.mpr hrsv), if_pos (h.resolve_left (not_not.mpr hrsv))]
  · rw [if_pos hrsv]

theorem decode_badClass (hrsv : w.toNat / 256 = 0) (hopc : w.toNat % 16 = 1) (hclass : 4 ≤ w.toNat / 16 % 16) :
    decode w = .error .badClass := by
  rw [decode_eq, if_neg (by omega), if_neg (not_not.mpr hrsv), if_neg fun h => h.1 hopc, if_pos ⟨hopc, hclass⟩]

end Sys2Proof

namespace Sys2Proof.Machine

/-- Settles O2: the identity on commands, and the decoder accepts no other word. -/
theorem decodeAndEncodeAgree : Obligations.DecodeAndEncodeAgree :=
  ⟨fun i _ => decode_encode i, fun _ _ h => eq_encode_of_decode h⟩

/-- Settles O3: a word that decodes is a command's, and the checks on the word rule out every decoding error. -/
theorem decodeAcceptsWellFormedWords : Obligations.DecodeAcceptsWellFormedWords := by
  refine fun w => ⟨?_, fun h => ⟨_, decode_of_wellFormed h⟩⟩
  rintro ⟨i, h⟩
  rw [eq_encode_of_decode h]
  exact commandWordWellFormed_encode i

/-- A word that is no command raises its decoding error and writes nothing else (30_encoding.md R80). -/
theorem perform_of_decodeError {w : Word} {d : DecodeError} (h : decode w = .error d) (s : State) :
    perform w s = .next (raise (decodeErrorCode d) 0 s) := by
  rw [perform, h]

/-- Settles O4: one decoding error for each kind of bad word. -/
theorem illegalWordsRaise : Obligations.IllegalWordsRaise := fun _ s =>
  ⟨fun hopc => perform_of_decodeError (decode_illegalOpcode hopc) s,
    fun hopc hrsv => perform_of_decodeError (decode_reservedBits hopc (.inl hrsv)) s,
    fun hopc hne hsub => perform_of_decodeError (decode_reservedBits hopc (.inr ⟨hne, hsub⟩)) s,
    fun hrsv hopc hclass => perform_of_decodeError (decode_badClass hrsv hopc hclass) s⟩

/-- Settles O1: each of the eleven words is the encoding of its command. -/
theorem commandWordsDecode : Obligations.CommandWordsDecode :=
  ⟨decode_encode .nop, decode_encode .classifyHdr, decode_encode .classifyFtr, decode_encode .classifyData,
    decode_encode .classifyData1, decode_encode .validate, decode_encode .demod, decode_encode .extract,
    decode_encode .build, decode_encode .decode, decode_encode .lock⟩

/-! DECODE -/

variable {s t : State}

/-- A legal profile's vector fits BITS (45_profile_and_control.md R159). -/
theorem LegalProfile.bvLen_le {c : Config} {p : Profile} (hp : LegalProfile c p) : p.bvLen ≤ 32 := by
  have := hp.fitsBits
  unfold Profile.bvLen
  omega

/-- BITS holds a stored vector of the profile's length as it is (10_state.md R48, 42_demodulator.md R125). -/
theorem heldVector_storeVector {bv : List Bool} (hlen : bv.length = s.prof.bvLen) (hfit : s.prof.bvLen ≤ 32) :
    (storeVector bv s).heldVector = bv := by
  apply List.ext_getElem
  · rw [heldVector_length, storeVector_prof, hlen]
  · intro p _ hp
    simp [State.heldVector, ofNat_packBits_getLsbD bv (hlen ▸ hfit), bitAt, hp]

/-- A command that reports OK has met no error (60_exceptions.md R171, R172). -/
theorem exec_ok {i : Instr} (h : exec i s = .next t) (hok : t.status.ok = true) :
    commandError i s = none ∧ t = complete (commandResult i s) := by
  rcases exec_cases h with hdone | ⟨e, n, -, rfl⟩
  · exact hdone
  · cases hok

theorem eq_of_exec_noError {i : Instr} (h : exec i s = .next t) (he : commandError i s = none) :
    t = complete (commandResult i s) := by
  cases h.symm.trans (exec_of_noError he)
  rfl

/-- Settles O33: after a passing VALIDATE neither DEMOD nor EXTRACT can fail, and EXTRACT reads from BITS the vector
DEMOD has put there. -/
theorem decodeIsValidateDemodExtract : Obligations.DecodeIsValidateDemodExtract := by
  intro s s1 s2 s3 hp h1 hok h2 h3
  obtain ⟨he, rfl⟩ := exec_ok h1 hok
  obtain ⟨hl, hv⟩ := lockedError_eq_none.mp he
  obtain ⟨hlen, -⟩ := (validate_eq_none s).mp (Option.map_eq_none_iff.mp hv)
  cases eq_of_exec_noError h2 (lockedError_eq_none.mpr ⟨hl, if_pos hlen⟩)
  cases eq_of_exec_noError h3 (lockedError_eq_none.mpr ⟨hl, rfl⟩)
  have hheld : (storeVector (demodVector s) s).heldVector = demodVector s :=
    heldVector_storeVector (demodVector_length s) hp.bvLen_le
  calc exec .decode s
      = .next (complete (commandResult .decode s)) := exec_of_noError he
    _ = .next (complete (storeMessage (fieldValue s.prof (storeVector (demodVector s) s).heldVector)
          (storeVector (demodVector s) (setFrameOk true s)))) := by rw [hheld]; rfl

end Sys2Proof.Machine

/-! The classifier (40_classifier.md): each position class compares one duration, and CLASSIFY stores the code of the
symbol. -/

namespace Sys2Proof.Machine

variable {s : State}

theorem classifyData_code (threshold d : Nat) :
    (classifyData threshold d).code = if threshold < d then 2 else 1 := apply_ite Symbol.code ..

/-- Raising the duration by FIRST_ADJ is lowering the threshold by it, where the threshold does not stop at 0
(40_classifier.md R104). -/
theorem classify_dataFirst_eq {p : Profile} (hadj : p.firstAdj.toNat ≤ p.longThr.toNat) (d : Word) :
    classify p d .dataFirst = classifyData p.longThr.toNat (d.toNat + p.firstAdj.toNat) := by
  have hlower : p.firstThreshold < d.toNat ↔ p.longThr.toNat < d.toNat + p.firstAdj.toNat :=
    Nat.sub_lt_iff_lt_add hadj
  simp only [classify, classifyData, hlower]

theorem commandError_classifyInstr (c : PosClass) (hl : s.status.locked = true) :
    commandError (classifyInstr c) s = none := by cases c <;> exact lockedError_of_locked hl

theorem commandResult_classifyInstr (c : PosClass) (s : State) :
    commandResult (classifyInstr c) s = storeSymbol (classify s.prof s.clsIn c) s := by cases c <;> rfl

/-- While locked, CLASSIFY writes the code of the pulse's symbol and success, and nothing else (40_classifier.md
R105). -/
theorem exec_classifyInstr (c : PosClass) (hl : s.status.locked = true) {code : BitVec 3}
    (hcode : (classify s.prof s.clsIn c).code = code) :
    exec (classifyInstr c) s = .next { s with clsOut := code, status := s.status.success } := by
  rw [exec_of_noError (commandError_classifyInstr c hl), commandResult_classifyInstr, ← hcode]
  rfl

/-- Settles O12: the code of the header class is the code of the branch its window chooses. -/
theorem classifyHeaderIsInclusiveWindow : Obligations.ClassifyHeaderIsInclusiveWindow :=
  ⟨fun _ _ => rfl, fun _ hl => exec_classifyInstr .header hl (apply_ite Symbol.code ..)⟩

/-- Settles O13: the code of the footer class is the code of the branch its window chooses. -/
theorem classifyFooterIsInclusiveWindow : Obligations.ClassifyFooterIsInclusiveWindow :=
  ⟨fun _ _ => rfl, fun _ hl => exec_classifyInstr .footer hl (apply_ite Symbol.code ..)⟩

/-- Settles O14: the data class is the comparison with LONG_THR. -/
theorem classifyDataIsStrictThreshold : Obligations.ClassifyDataIsStrictThreshold :=
  ⟨fun _ _ => rfl, fun _ hl => exec_classifyInstr .data hl (classifyData_code ..)⟩

/-- Settles O15: under a legal FIRST_ADJ the first data pair is a data pulse longer by FIRST_ADJ. -/
theorem classifyFirstDataLowersThreshold : Obligations.ClassifyFirstDataLowersThreshold := by
  refine ⟨fun p d hadj => classify_dataFirst_eq hadj d, fun p d hzero => ?_, fun s hl hadj => ?_⟩
  · have hle : p.firstAdj.toNat ≤ p.longThr.toNat := by simp [hzero]
    calc classify p d .dataFirst
        = classifyData p.longThr.toNat (d.toNat + p.firstAdj.toNat) := classify_dataFirst_eq hle d
      _ = classify p d .data := by rw [hzero]; rfl
  · apply exec_classifyInstr .dataFirst hl
    rw [classify_dataFirst_eq hadj, classifyData_code]

end Sys2Proof.Machine

/-! The validator (41_validator.md): what VALIDATE answers for each result of the three checks, which check fails
first, and what the checks read. -/

namespace Sys2Proof.Machine

variable {s t : State}

/-- The status VALIDATE leaves, by the check that fails (41_validator.md R114). -/
def Status.validated (st : Status) : Option ErrorCode → Status
  | none => { st.success with frameOk := true }
  | some e => { st.failure e.eclass 0 e.ecode with frameOk := false }

/-- While locked, VALIDATE writes STATUS by the first failing check, and nothing else (41_validator.md R114). -/
theorem exec_validate (hl : s.status.locked = true) :
    exec .validate s = .next { s with status := s.status.validated (validate s) } := by
  obtain ⟨u, hu⟩ := exec_total .validate s
  rcases execValidate_cases hu with ⟨-, hv, rfl⟩ | ⟨e, -, hv, rfl⟩ | ⟨hunlocked, -⟩
  · rw [hu, hv]
    rfl
  · rw [hu, hv]
    rfl
  · exact absurd (hl.symm.trans hunlocked) (by decide)

/-- While locked, VALIDATE succeeds for exactly the frames that pass the checks (41_validator.md R114). -/
theorem exec_validate_ok_iff (hl : s.status.locked = true) :
    (∃ u, exec .validate s = .next u ∧ u.status.ok = true) ↔ s.FramePasses := by
  rw [← validate_eq_none, exec_validate hl]
  cases validate s with
  | none => exact iff_of_true ⟨_, rfl, rfl⟩ rfl
  | some e =>
    refine iff_of_false ?_ nofun
    rintro ⟨u, hu, hok⟩
    cases hu
    cases hok

/-! The first failing check -/

/-- A train of another length fails the first check (41_validator.md R111). -/
theorem validate_of_length_ne (hlen : s.rawLen ≠ s.prof.frameLen) : validate s = some .frameLength := if_pos hlen

/-- A header outside its window fails the second check (41_validator.md R112). -/
theorem validate_of_not_headerFits (hlen : s.rawLen = s.prof.frameLen) (hheader : ¬ s.prof.headerFits (s.rawAt 0)) :
    validate s = some .headerWindow := by
  rw [validate, if_neg (not_not.mpr hlen), if_pos ((classify_header_eq _ _).not.mpr hheader)]

/-- A footer outside its window fails the third check (41_validator.md R113). -/
theorem validate_of_not_footerFits (hlen : s.rawLen = s.prof.frameLen) (hheader : s.prof.headerFits (s.rawAt 0))
    (hfooter : ¬ s.prof.footerFits (s.rawAt (s.prof.frameLen.toNat - 1))) :
    validate s = some .footerWindow := by
  rw [validate, if_neg (not_not.mpr hlen), if_neg (not_not.mpr ((classify_header_eq _ _).mpr hheader)),
    if_pos ((classify_footer_eq _ _).not.mpr hfooter)]

/-- Validation reads the profile, RAW_LEN, and the first and the last pulse of the frame (41_validator.md R110). -/
theorem validate_congr (hprof : s.prof = t.prof) (hlen : s.rawLen = t.rawLen) (hfirst : s.rawAt 0 = t.rawAt 0)
    (hlast : s.rawAt (s.prof.frameLen.toNat - 1) = t.rawAt (s.prof.frameLen.toNat - 1)) :
    validate s = validate t := by
  rw [validate, validate, hlen, hfirst, hlast, hprof]

/-- Settles O47: a built train has the frame's length, SHORT_PULSE first and FTR_PULSE last, so of the three checks
the two windows remain. -/
theorem builtTrainValidatesIffWindowsFit : Obligations.BuiltTrainValidatesIffWindowsFit := by
  intro s hi htx
  obtain ⟨hl, hlen, -, hheader, hfooter, -⟩ := hi.txReady htx
  rw [exec_validate_ok_iff hl, State.FramePasses, hheader, hfooter]
  exact and_iff_right hlen

/-- Settles O16: no check fails. -/
theorem validateAcceptsPassingFrame : Obligations.ValidateAcceptsPassingFrame := by
  intro s hl hlen hheader hfooter
  rw [exec_validate hl, (validate_eq_none s).mpr ⟨hlen, hheader, hfooter⟩]
  rfl

/-- Settles O17: one lemma for each check that can fail first. -/
theorem validateReportsFirstFailure : Obligations.ValidateReportsFirstFailure := by
  intro s hl
  rw [exec_validate hl]
  refine ⟨fun hlen => ?_, fun hlen hheader => ?_, fun hlen hheader hfooter => ?_⟩
  · rw [validate_of_length_ne hlen]
    rfl
  · rw [validate_of_not_headerFits hlen hheader]
    rfl
  · rw [validate_of_not_footerFits hlen hheader hfooter]
    rfl

/-- Settles O18: the status VALIDATE leaves depends on the status before and on the checks, which read no other
pulse. -/
theorem validateIgnoresBodyPulses : Obligations.ValidateIgnoresBodyPulses := by
  intro s t s' t' hl hstatus hprof hlen hfirst hlast hs ht
  cases (exec_validate hl).symm.trans hs
  cases (exec_validate (hstatus ▸ hl)).symm.trans ht
  exact congrArg₂ Status.validated hstatus (validate_congr hprof hlen hfirst hlast)

end Sys2Proof.Machine

/-! The demodulator (42_demodulator.md): what DEMOD answers for a train of the frame's length and for another, what a
key pulse says, and that the vector depends on the key pulses alone. -/

namespace Sys2Proof.Machine

variable {s t : State}

/-- DEMOD of a train of the frame's length stores its vector, whatever the header and the footer are
(42_demodulator.md R125, R126). -/
theorem exec_demod (hl : s.status.locked = true) (hlen : s.rawLen = s.prof.frameLen) :
    exec .demod s = .next (complete (storeVector (demodVector s) s)) :=
  exec_of_noError (lockedError_eq_none.mpr ⟨hl, if_pos hlen⟩)

theorem commandError_demod_of_length_ne (hl : s.status.locked = true) (hlen : s.rawLen ≠ s.prof.frameLen) :
    commandError .demod s = some (.demodLength, 0) :=
  (lockedError_of_locked hl).trans (if_neg hlen)

/-- Settles O20: the length is the one error a locked DEMOD can meet, and to raise it writes the result fields only. -/
theorem demodRejectsOtherLengths : Obligations.DemodRejectsOtherLengths :=
  fun _ hl hlen => exec_of_error (commandError_demod_of_length_ne hl hlen)

/-! The key pulses -/

theorem classifyData_eq_long (threshold d : Nat) : classifyData threshold d = .long ↔ threshold < d := by
  simp [classifyData]

/-- A key pulse is LONG above its pair's threshold; the lower threshold of pair 0 is said by a longer pulse
(42_demodulator.md R121, R122). -/
theorem demodBit_eq_true (hadj : s.prof.firstAdj.toNat ≤ s.prof.longThr.toNat) (q : Nat) :
    demodBit s q = true ↔
      s.prof.longThr.toNat < (s.rawAt (2 * q + 1)).toNat + (if q = 0 then s.prof.firstAdj.toNat else 0) := by
  rw [demodBit, decide_eq_true_iff, pairClass]
  by_cases hq : q = 0
  · rw [if_pos hq, if_pos hq, classify_dataFirst_eq hadj, classifyData_eq_long]
  · rw [if_neg hq, if_neg hq, Nat.add_zero]
    exact classifyData_eq_long ..

/-- A bit of the vector depends on the profile and on its own key pulse (42_demodulator.md R121). -/
theorem demodBit_congr {q : Nat} (hprof : s.prof = t.prof) (hkey : s.rawAt (2 * q + 1) = t.rawAt (2 * q + 1)) :
    demodBit s q = demodBit t q := by
  rw [demodBit, demodBit, hprof, hkey]

/-- The vector depends on the profile and on the key pulses of the frame (42_demodulator.md R121, R123). -/
theorem demodVector_congr (hprof : s.prof = t.prof)
    (hkeys : ∀ q, q < s.prof.bvLen → s.rawAt (2 * q + 1) = t.rawAt (2 * q + 1)) : demodVector s = demodVector t := by
  rw [demodVector, demodVector, ← hprof]
  exact List.map_congr_left fun q hq => demodBit_congr hprof (hkeys q (List.mem_range.mp hq))

/-- Settles O19: bit q of BITS is entry q of the vector, which a legal profile makes fit the register, and that entry
is the class of its key pulse. -/
theorem demodReadsKeyPulses : Obligations.DemodReadsKeyPulses := by
  intro s hl hp hlen
  have hfit : (demodVector s).length ≤ 32 := (demodVector_length s).trans_le hp.bvLen_le
  refine ⟨_, exec_demod hl hlen, rfl, ?_, fun q => ?_⟩
  · calc (BitVec.ofNat 32 (demodVector s).length).toNat
        = (demodVector s).length := (BitVec.toNat_ofNat ..).trans (Nat.mod_eq_of_lt (by omega))
      _ = (s.prof.frameLen.toNat - 2) / 2 := demodVector_length s
  · calc (BitVec.ofNat 32 (packBits (demodVector s))).getLsbD q = true
        ↔ bitAt (demodVector s) q = true := by rw [ofNat_packBits_getLsbD _ hfit]
      _ ↔ q < s.prof.bvLen ∧ demodBit s q = true := by
          rw [bitAt_demodVector, Bool.and_eq_true, decide_eq_true_iff]
      _ ↔ _ := and_congr_right fun _ => demodBit_eq_true hp.adjustment q

/-- Settles O21: BITS and BITS_LEN are taken from the vector, and the two trains have the same one. -/
theorem demodIgnoresOtherPulses : Obligations.DemodIgnoresOtherPulses := by
  intro s t s' t' hl hstatus hprof hraw hlen hkeys hs ht
  have hlen' : t.rawLen = t.prof.frameLen := hraw ▸ hprof ▸ hlen
  cases (exec_demod hl hlen).symm.trans hs
  cases (exec_demod (hstatus ▸ hl) hlen').symm.trans ht
  rw [demodVector_congr hprof hkeys]
  exact ⟨rfl, rfl⟩

end Sys2Proof.Machine

/-! The extractor (43_extractor.md): what EXTRACT answers with a vector and without one, and that the slices of a legal
profile lie inside the vector and their values fit the FIELD registers. -/

namespace Sys2Proof.Machine

variable {s : State}

/-- EXTRACT of a demodulated vector stores the value of each field's slice (43_extractor.md R131, R132). -/
theorem exec_extract (hl : s.status.locked = true) (hbits : s.status.bitsValid = true) :
    exec .extract s = .next (complete (storeMessage (fieldValue s.prof s.heldVector) s)) :=
  exec_of_noError (lockedError_eq_none.mpr ⟨hl, if_pos hbits⟩)

theorem commandError_extract_of_bitsInvalid (hl : s.status.locked = true) (hbits : s.status.bitsValid = false) :
    commandError .extract s = some (.noBits, 0) :=
  (lockedError_of_locked hl).trans (if_neg (Bool.eq_false_iff.mp hbits))

/-- Settles O23: the missing vector is the one error a locked EXTRACT can meet, and to raise it writes the result
fields only. -/
theorem extractNeedsVector : Obligations.ExtractNeedsVector :=
  fun _ hl hbits => exec_of_error (commandError_extract_of_bitsInvalid hl hbits)

/-! The fields -/

@[simp] theorem complete_field (n : FieldId) : (complete s).field n = s.field n := by cases n <;> rfl

@[simp] theorem storeMessage_field (value : FieldId → Nat) (n : FieldId) :
    (storeMessage value s).field n = BitVec.ofNat 32 (value n) := by cases n <;> rfl

/-- A field of a legal profile is at most 32 bits wide, so its value fits FIELDn (43_extractor.md R132). -/
theorem LegalProfile.fieldValue_lt {c : Config} {p : Profile} (hp : LegalProfile c p) (bv : List Bool) (n : FieldId) :
    fieldValue p bv n < 2 ^ 32 :=
  (toUint_lt bv _ _).trans_le (Nat.pow_le_pow_right (by decide) (hp.width n).2)

/-- A slice of a legal profile reads no bit past the vector (43_extractor.md R131). -/
theorem LegalProfile.bitAt_heldVector_slice (hp : LegalProfile s.cfg s.prof) {n : FieldId} {j : Nat}
    (hj : j < s.prof.width n) :
    bitAt s.heldVector (s.prof.offset n + j) = s.bits.getLsbD (s.prof.offset n + j) := by
  have hinside : s.prof.offset n + j < s.prof.bvLen :=
    (Nat.add_lt_add_left hj _).trans_le (hp.bounds n)
  rw [bitAt_heldVector, decide_eq_true hinside, Bool.true_and]

/-- Settles O22: the value of a slice is the sum of its bits by weight, which FIELDn holds in full, and those bits are
bits of BITS. -/
theorem extractReadsSlicesMsbFirst : Obligations.ExtractReadsSlicesMsbFirst := by
  intro s hl hp hbits
  refine ⟨_, exec_extract hl hbits, rfl, fun n => ?_⟩
  calc ((complete (storeMessage (fieldValue s.prof s.heldVector) s)).field n).toNat
      = (BitVec.ofNat 32 (fieldValue s.prof s.heldVector n)).toNat := by rw [complete_field, storeMessage_field]
    _ = fieldValue s.prof s.heldVector n :=
        (BitVec.toNat_ofNat ..).trans (Nat.mod_eq_of_lt (hp.fieldValue_lt _ n))
    _ = ∑ j ∈ Finset.range (s.prof.width n),
          (bitAt s.heldVector (s.prof.offset n + j)).toNat * 2 ^ (s.prof.width n - 1 - j) := toUint_eq_sum ..
    _ = ∑ j ∈ Finset.range (s.prof.width n),
          (s.bits.getLsbD (s.prof.offset n + j)).toNat * 2 ^ (s.prof.width n - 1 - j) :=
        Finset.sum_congr rfl fun j hj => by rw [hp.bitAt_heldVector_slice (Finset.mem_range.mp hj)]

end Sys2Proof.Machine

/-! The builder (44_builder.md): which message BUILD accepts and which field it reports, and what RAW holds after a
built train is stored over it. -/

namespace Sys2Proof.Machine

variable {s : State} {n : FieldId}

/-! The checks -/

/-- The presence check passes exactly the messages with all three fields (44_builder.md R141). -/
theorem missingField_eq_none : missingField s = none ↔ ∀ n, s.present n = true := by
  rw [missingField, FieldId.find?_eq_none]
  simp only [Bool.not_eq_false']

/-- An absent field that no absent field precedes is the one the presence check finds (44_builder.md R141). -/
theorem missingField_eq_some (habsent : s.present n = false)
    (hbefore : ∀ m : FieldId, m.index < n.index → s.present m = true) : missingField s = some n :=
  FieldId.find?_eq_some _ n (by rw [habsent, Bool.not_false]) fun m hm => by rw [hbefore m hm, Bool.not_true]

/-- The width check of the policy ERROR walks the fields (44_builder.md R142). -/
theorem overflowingField_of_error (hpolicy : s.cfg.overflowPolicy = .error) :
    overflowingField s = FieldId.all.find? fun n => decide (2 ^ s.prof.width n ≤ (s.field n).toNat) := by
  rw [overflowingField, hpolicy]

/-- The policy TRUNCATE has no width check (44_builder.md R142). -/
theorem overflowingField_of_truncate (hpolicy : s.cfg.overflowPolicy = .truncate) : overflowingField s = none := by
  rw [overflowingField, hpolicy]

/-- The width check passes exactly the messages whose values fit, where the policy asks for it (44_builder.md R142). -/
theorem overflowingField_eq_none :
    overflowingField s = none ↔
      (s.cfg.overflowPolicy = .error → ∀ n, (s.field n).toNat < 2 ^ s.prof.width n) := by
  cases hpolicy : s.cfg.overflowPolicy with
  | error =>
    rw [overflowingField_of_error hpolicy, FieldId.find?_eq_none]
    simp only [decide_eq_false_iff_not, Nat.not_le, forall_const]
  | truncate => exact iff_of_true (overflowingField_of_truncate hpolicy) nofun

/-- Under the policy ERROR, a value too wide that no such value precedes is the one the width check finds
(44_builder.md R142). -/
theorem overflowingField_eq_some (hpolicy : s.cfg.overflowPolicy = .error)
    (hwide : 2 ^ s.prof.width n ≤ (s.field n).toNat)
    (hbefore : ∀ m : FieldId, m.index < n.index → (s.field m).toNat < 2 ^ s.prof.width m) :
    overflowingField s = some n := by
  rw [overflowingField_of_error hpolicy]
  exact FieldId.find?_eq_some _ n (decide_eq_true hwide) fun m hm => decide_eq_false (hbefore m hm).not_ge

/-! What BUILD answers -/

theorem buildError_of_missingField (hmissing : missingField s = some n) :
    buildError s = some (.fieldMissing, n.eidx) := by rw [buildError, hmissing]

theorem buildError_of_overflowingField (hmissing : missingField s = none) (hover : overflowingField s = some n) :
    buildError s = some (.fieldOverflow, n.eidx) := by rw [buildError, hmissing, hover]; rfl

theorem buildError_eq_none (hmissing : missingField s = none) (hover : overflowingField s = none) :
    buildError s = none := by rw [buildError, hmissing, hover]; rfl

/-- BUILD of a message that passes both checks stores its train (44_builder.md R148). -/
theorem exec_build (hl : s.status.locked = true) (hmissing : missingField s = none)
    (hover : overflowingField s = none) :
    exec .build s = .next (complete (storeTrain (builtTrain s) s)) :=
  exec_of_noError (lockedError_eq_none.mpr ⟨hl, buildError_eq_none hmissing hover⟩)

/-- A BUILD that a check of the message stops writes the result fields only (44_builder.md R141, R142). -/
theorem exec_build_of_buildError (hl : s.status.locked = true) {e : ErrorCode} {i : BitVec 2}
    (he : buildError s = some (e, i)) :
    exec .build s = .next { s with status := s.status.failure e.eclass i e.ecode } :=
  exec_of_error (i := .build) ((lockedError_of_locked hl).trans he)

/-- Settles O25: the presence check comes first, and it stops at the first absent field. -/
theorem buildReportsMissingField : Obligations.BuildReportsMissingField :=
  fun _ _ hl habsent hbefore =>
    exec_build_of_buildError hl (buildError_of_missingField (missingField_eq_some habsent hbefore))

/-- Settles O26: the presence check passes, and the width check stops at the first value too wide. -/
theorem buildReportsOverflow : Obligations.BuildReportsOverflow :=
  fun _ _ hl hpolicy hpresent hwide hbefore =>
    exec_build_of_buildError hl (buildError_of_overflowingField (missingField_eq_none.mpr hpresent)
      (overflowingField_eq_some hpolicy hwide hbefore))

/-- Settles O27: a BUILD that reports OK has stored a train, and to store one writes FRAME_LEN to RAW_LEN. -/
theorem buildKeepsFrameLength : Obligations.BuildKeepsFrameLength := by
  intro s t h hok
  obtain ⟨-, rfl⟩ := exec_ok h hok
  exact storeTrain_rawLen s (builtTrain s)

/-! What RAW holds after BUILD -/

@[simp] theorem complete_rawAt (k : Nat) : (complete s).rawAt k = s.rawAt k := rfl

/-- A stored train replaces the entries of RAW it reaches, and no other (44_builder.md R148). -/
theorem storeTrain_rawAt (train : List Word) (k : Nat) :
    (storeTrain train s).rawAt k = if k < train.length ∧ k < s.raw.length then train.getD k 0 else s.rawAt k :=
  overwrite_getD ..

/-- The entries below FRAME_LEN of a built frame that RAW has room for are the train's (44_builder.md R148). -/
theorem storeTrain_builtTrain_rawAt_of_lt (hroom : s.prof.frameLen.toNat ≤ s.raw.length) {k : Nat}
    (hk : k < s.prof.frameLen.toNat) : (storeTrain (builtTrain s) s).rawAt k = (builtTrain s).getD k 0 := by
  rw [storeTrain_rawAt, builtTrain_length, if_pos ⟨hk, hk.trans_le hroom⟩]

/-- The entries of RAW from FRAME_LEN up keep their pulses (44_builder.md R148). -/
theorem storeTrain_builtTrain_rawAt_of_le {k : Nat} (hk : s.prof.frameLen.toNat ≤ k) :
    (storeTrain (builtTrain s) s).rawAt k = s.rawAt k := by
  rw [storeTrain_rawAt, builtTrain_length, if_neg fun h => absurd h.1 hk.not_gt]

/-- Settles O24: the message passes both checks, and below FRAME_LEN, which a legal profile keeps within RAW, RAW holds
the built train. -/
theorem buildPlacesMessagePulses : Obligations.BuildPlacesMessagePulses := by
  intro s hl hp hsize hpresent hfit
  have hlen := hp.atLeast
  have entry {k : Nat} (hk : k < s.prof.frameLen.toNat) :
      (complete (storeTrain (builtTrain s) s)).rawAt k = (builtTrain s).getD k 0 := by
    rw [complete_rawAt, storeTrain_builtTrain_rawAt_of_lt (hp.fitsRaw.trans_eq hsize.symm) hk]
  have hdone := exec_build hl (missingField_eq_none.mpr hpresent) (overflowingField_eq_none.mpr hfit)
  refine ⟨_, hdone, rfl, overwrite_length .., ?header, ?footer, fun q hq => ?pair, fun k hk => ?above⟩
  case header => exact (entry (by omega)).trans (builtTrain_header hp)
  case footer => exact (entry (by omega)).trans (builtTrain_footer hp)
  case pair =>
    rw [entry (show 2 * q + 1 < s.prof.frameLen.toNat by omega),
      entry (show 2 * q + 2 < s.prof.frameLen.toNat by omega)]
    exact builtTrain_pair hp hq
  case above => rw [complete_rawAt, storeTrain_builtTrain_rawAt_of_le hk]

end Sys2Proof.Machine

/-! LOCK (45_profile_and_control.md R158, R159): what it answers to each result of its checks, and the check that fails
first. -/

namespace Sys2Proof.Machine

variable {s : State} {c : Config} {p : Profile} {n : FieldId} {e : ErrorCode} {i : BitVec 2}

/-- While unlocked, LOCK meets the errors of its checks of the profile, and no other (45_profile_and_control.md
R158). -/
theorem commandError_lock (hl : s.status.locked = false) : commandError .lock s = lockCheck s.cfg s.prof :=
  if_neg (Bool.eq_false_iff.mp hl)

/-- A LOCK that a check of the profile stops writes the result fields only (45_profile_and_control.md R158). -/
theorem exec_lock_of_lockCheck (hl : s.status.locked = false) (he : lockCheck s.cfg s.prof = some (e, i)) :
    exec .lock s = .next { s with status := s.status.failure e.eclass i e.ecode } :=
  exec_of_error ((commandError_lock hl).trans he)

/-- Every check of LOCK reports a ConfigurationError (45_profile_and_control.md R159, 60_exceptions.md R170). -/
theorem lockCheck_eclass (h : lockCheck c p = some (e, i)) : e.eclass = 3 := by
  unfold lockCheck at h
  repeat' split at h
  all_goals cases h
  all_goals rfl

/-- Settles O28: the checks pass for exactly the legal profiles, and each of them reports class 3. -/
theorem lockAcceptsExactlyLegalProfiles : Obligations.LockAcceptsExactlyLegalProfiles := by
  intro s hl
  constructor
  · intro hp
    exact exec_of_noError ((commandError_lock hl).trans ((lockCheck_eq_none _ _).mpr hp))
  · intro hp
    obtain ⟨⟨e, i⟩, he⟩ := Option.ne_none_iff_exists'.mp ((lockCheck_eq_none _ _).not.mpr hp)
    refine ⟨i, e.ecode, ?_⟩
    rw [exec_lock_of_lockCheck hl he, lockCheck_eclass he]

/-! The field a check finds -/

theorem badWidth_eq_some (hbad : p.width n = 0 ∨ 32 < p.width n)
    (hbefore : ∀ m : FieldId, m.index < n.index → 1 ≤ p.width m ∧ p.width m ≤ 32) : badWidth p = some n :=
  FieldId.find?_eq_some _ n (decide_eq_true hbad) fun m hm => decide_eq_false (by have := hbefore m hm; omega)

theorem badBounds_eq_some (hbad : p.bvLen < p.offset n + p.width n)
    (hbefore : ∀ m : FieldId, m.index < n.index → p.offset m + p.width m ≤ p.bvLen) : badBounds p = some n :=
  FieldId.find?_eq_some _ n (decide_eq_true hbad) fun m hm => decide_eq_false (hbefore m hm).not_gt

/-- The slices of fields `m` and `n` have a vector position in common (45_profile_and_control.md R159). -/
abbrev Profile.SlicesShare (p : Profile) (m n : FieldId) : Prop :=
  ∃ q, (p.offset m ≤ q ∧ q < p.offset m + p.width m) ∧ p.offset n ≤ q ∧ q < p.offset n + p.width n

/-- Of two slices with a bit each, the comparison of their ends finds every common bit: the larger offset is one
(45_profile_and_control.md R159). -/
theorem slicesOverlap_iff_share (hwidth : ∀ n, 1 ≤ p.width n) (m n : FieldId) :
    slicesOverlap p m n = true ↔ p.SlicesShare m n := by
  have hm := hwidth m
  have hn := hwidth n
  rw [slicesOverlap, decide_eq_true_iff]
  constructor
  · intro h
    exact ⟨max (p.offset m) (p.offset n), by omega, by omega⟩
  · rintro ⟨q, hqm, hqn⟩
    omega

/-- A field that shares a bit with a lower one, with no such field before it, is the one the overlap check finds
(45_profile_and_control.md R159). -/
theorem overlappingField_eq_some {m : FieldId} (hwidth : ∀ n, 1 ≤ p.width n) (hmn : m.index < n.index)
    (hshare : p.SlicesShare m n)
    (hbefore : ∀ k l : FieldId, k.index < l.index → l.index < n.index → ¬ p.SlicesShare k l) :
    overlappingField p = some n := by
  have overlaps_iff (l : FieldId) :
      (FieldId.all.any fun k => decide (k.index < l.index) && slicesOverlap p k l) = true ↔
        ∃ k : FieldId, k.index < l.index ∧ p.SlicesShare k l := by
    simp only [List.any_eq_true, FieldId.mem_all, true_and, Bool.and_eq_true, decide_eq_true_iff,
      slicesOverlap_iff_share hwidth]
  refine FieldId.find?_eq_some _ n ((overlaps_iff n).mpr ⟨m, hmn, hshare⟩) fun l hl => ?_
  rw [Bool.eq_false_iff, ne_eq, overlaps_iff]
  rintro ⟨k, hkl, hkshare⟩
  exact hbefore k l hkl hl hkshare

/-! The first failing check, each said where the checks before it pass -/

theorem lockCheck_frameLenOdd (hodd : p.frameLen.toNat % 2 = 1) : lockCheck c p = some (.frameLenOdd, 0) := if_pos hodd

section

variable (heven : p.frameLen.toNat % 2 = 0)
include heven

theorem lockCheck_frameLenRange (hrange : p.frameLen.toNat < 4 ∨ min c.rawCap Config.frameMax < p.frameLen.toNat) :
    lockCheck c p = some (.frameLenRange, 0) := by
  rw [lockCheck, if_neg (by omega), if_pos hrange]

variable (hlow : 4 ≤ p.frameLen.toNat) (hhigh : p.frameLen.toNat ≤ min c.rawCap Config.frameMax)
include hlow hhigh

theorem lockCheck_fieldWidth (hbad : badWidth p = some n) : lockCheck c p = some (.fieldWidth, n.eidx) := by
  rw [lockCheck, if_neg (by omega), if_neg (by omega), hbad]

variable (hwidth : ∀ n, 1 ≤ p.width n ∧ p.width n ≤ 32)
include hwidth

theorem lockCheck_fieldBounds (hbad : badBounds p = some n) : lockCheck c p = some (.fieldBounds, n.eidx) := by
  rw [lockCheck, if_neg (by omega), if_neg (by omega), (badWidth_eq_none p).mpr hwidth, hbad]

variable (hbounds : ∀ n, p.offset n + p.width n ≤ p.bvLen)
include hbounds

theorem lockCheck_fieldBudget (hover : p.bvLen < p.width .systemcode + p.width .unitcode + p.width .id) :
    lockCheck c p = some (.fieldBudget, 0) := by
  rw [lockCheck, if_neg (by omega), if_neg (by omega), (badWidth_eq_none p).mpr hwidth,
    (badBounds_eq_none p).mpr hbounds]
  exact if_pos hover

variable (hbudget : p.width .systemcode + p.width .unitcode + p.width .id ≤ p.bvLen)
include hbudget

theorem lockCheck_fieldOverlap (hbad : overlappingField p = some n) :
    lockCheck c p = some (.fieldOverlap, n.eidx) := by
  rw [lockCheck, if_neg (by omega), if_neg (by omega), (badWidth_eq_none p).mpr hwidth,
    (badBounds_eq_none p).mpr hbounds, hbad]
  exact if_neg hbudget.not_gt

theorem lockCheck_firstAdjRange
    (hapart : ∀ m n : FieldId, m ≠ n → p.offset m + p.width m ≤ p.offset n ∨ p.offset n + p.width n ≤ p.offset m)
    (hadj : p.longThr.toNat < p.firstAdj.toNat) : lockCheck c p = some (.firstAdjRange, 0) := by
  rw [lockCheck, if_neg (by omega), if_neg (by omega), (badWidth_eq_none p).mpr hwidth,
    (badBounds_eq_none p).mpr hbounds, (overlappingField_eq_none p).mpr hapart]
  exact (if_neg hbudget.not_gt).trans (if_pos hadj)

end

/-- Settles O29: one lemma for each check that can fail first. -/
theorem lockReportsFirstFailure : Obligations.LockReportsFirstFailure := by
  intro s hl
  refine ⟨fun hodd => exec_lock_of_lockCheck hl (lockCheck_frameLenOdd hodd), fun heven => ⟨fun hrange => ?_, ?_⟩⟩
  · exact exec_lock_of_lockCheck hl (lockCheck_frameLenRange heven hrange)
  intro hlow hhigh
  refine ⟨fun n hbad hbefore => ?_, fun hwidth => ⟨fun n hbad hbefore => ?_, fun hbounds => ⟨fun hover => ?_,
    fun hbudget => ⟨fun m n hmn hshare hbefore => ?_, fun hapart hadj => ?_⟩⟩⟩⟩
  · exact exec_lock_of_lockCheck hl (lockCheck_fieldWidth heven hlow hhigh (badWidth_eq_some hbad hbefore))
  · exact exec_lock_of_lockCheck hl
      (lockCheck_fieldBounds heven hlow hhigh hwidth (badBounds_eq_some hbad hbefore))
  · exact exec_lock_of_lockCheck hl (lockCheck_fieldBudget heven hlow hhigh hwidth hbounds hover)
  · have hfound : overlappingField s.prof = some n :=
      overlappingField_eq_some (fun k => (hwidth k).1) hmn hshare fun k l hkl hln ⟨q, hqk, hql⟩ =>
        hbefore k l hkl hln q hqk.1 hqk.2 hql
    exact exec_lock_of_lockCheck hl (lockCheck_fieldOverlap heven hlow hhigh hwidth hbounds hbudget hfound)
  · exact exec_lock_of_lockCheck hl (lockCheck_firstAdjRange heven hlow hhigh hwidth hbounds hbudget hapart hadj)

/-- Settles O30: a locked LOCK meets ALREADY_LOCKED before any check, and FRAME_LEN is 0 after reset. -/
theorem lockOnlyOnce : Obligations.LockOnlyOnce :=
  ⟨fun _ hl => exec_of_error (i := .lock) (if_pos hl), fun c =>
    exec_lock_of_lockCheck (s := State.resetWith c) rfl (lockCheck_frameLenRange rfl (.inl (show 0 < 4 by decide)))⟩

end Sys2Proof.Machine

/-! NOP, and the lock that the other commands need (45_profile_and_control.md R160, R163). -/

namespace Sys2Proof.Machine

variable {s : State}

/-- Settles O11: NOP has no error and stores nothing; a word with OPC = 0 that is not 0 has a bit in RSV or in SUB. -/
theorem nopOnlyWritesSuccess : Obligations.NopOnlyWritesSuccess := by
  refine ⟨fun s => exec_of_noError (i := .nop) rfl, decode_encode .nop, fun w s hopc hne => ?_⟩
  have hpos : w.toNat ≠ 0 := fun h => hne (BitVec.eq_of_toNat_eq h)
  exact perform_of_decodeError (decode_reservedBits (by omega) (by omega)) s

/-- While unlocked, every command but NOP and LOCK writes NOT_LOCKED to the result fields, and nothing else
(45_profile_and_control.md R163). -/
theorem exec_of_unlocked (hl : s.status.locked = false) {i : Instr} (hnop : i ≠ .nop) (hlock : i ≠ .lock) :
    exec i s = .next { s with status := s.status.failure 4 0 0x33 } := by
  have herror : commandError i s = some (.notLocked, 0) := by
    cases i with
    | nop => exact absurd rfl hnop
    | lock => exact absurd rfl hlock
    | _ => exact lockedError_of_unlocked hl
  have hkeep : errorState i s = s := by
    cases i with
    | validate | decode => exact if_neg (Bool.eq_false_iff.mp hl)
    | _ => rfl
  rw [exec_of_error herror, hkeep]
  rfl

/-- No ConfigurationError has the code of NOT_LOCKED (60_exceptions.md R170). -/
theorem ErrorCode.ecode_ne_notLocked {e : ErrorCode} (h : e.eclass = 3) : e.ecode ≠ ErrorCode.notLocked.ecode := by
  revert h
  cases e <;> decide

/-- Settles O34: NOP has no error, and LOCK succeeds or reports a ConfigurationError. -/
theorem commandsNeedLock : Obligations.CommandsNeedLock := by
  refine fun s hl => ⟨fun i hnop hlock => exec_of_unlocked hl hnop hlock, ⟨_, rfl, rfl⟩, ?_⟩
  obtain ⟨t, ht⟩ := exec_total .lock s
  refine ⟨t, ht, ?_⟩
  rcases exec_cases ht with ⟨-, rfl⟩ | ⟨e, n, he, rfl⟩
  · exact show (0 : BitVec 8) ≠ 0x33 by decide
  · exact ErrorCode.ecode_ne_notLocked (lockCheck_eclass ((commandError_lock hl).symm.trans he))

end Sys2Proof.Machine

/-! DECODE (45_profile_and_control.md R161): what it answers for each result of the three checks, and what vector and
message it stores. -/

namespace Sys2Proof.Machine

variable {s : State}

/-- DECODE of a frame that passes the checks stores its vector and the vector's message (45_profile_and_control.md
R161). -/
theorem exec_decode (hl : s.status.locked = true) (hpass : s.FramePasses) :
    exec .decode s = .next (complete (storeMessage (fieldValue s.prof (demodVector s))
      (storeVector (demodVector s) (setFrameOk true s)))) :=
  exec_of_noError (lockedError_eq_none.mpr ⟨hl, Option.map_eq_none_iff.mpr ((validate_eq_none s).mpr hpass)⟩)

/-- DECODE of a frame that fails a check writes the result fields and clears FRAME_OK, and nothing else
(45_profile_and_control.md R161). -/
theorem exec_decode_of_validate (hl : s.status.locked = true) {e : ErrorCode} (he : validate s = some e) :
    exec .decode s = .next { s with status := { s.status.failure e.eclass 0 e.ecode with frameOk := false } } := by
  have herror : commandError .decode s = some (e, 0) := (lockedError_of_locked hl).trans (congrArg _ he)
  have hclear : errorState .decode s = setFrameOk false s := if_pos hl
  rw [exec_of_error herror, hclear]
  rfl

/-- Settles O32: the checks are those of VALIDATE, one lemma for each that can fail first. -/
theorem decodeRejectsAsValidate : Obligations.DecodeRejectsAsValidate := fun _ hl =>
  ⟨fun hlen => exec_decode_of_validate hl (validate_of_length_ne hlen),
    fun hlen hheader => exec_decode_of_validate hl (validate_of_not_headerFits hlen hheader),
    fun hlen hheader hfooter => exec_decode_of_validate hl (validate_of_not_footerFits hlen hheader hfooter)⟩

/-- A slice of a legal profile reaches no position past the vector (43_extractor.md R131). -/
theorem LegalProfile.slice_lt_bvLen {c : Config} {p : Profile} (hp : LegalProfile c p) {n : FieldId} {j : Nat}
    (hj : j < p.width n) : p.offset n + j < p.bvLen :=
  (Nat.add_lt_add_left hj _).trans_le (hp.bounds n)

theorem bitAt_demodVector_of_lt {q : Nat} (hq : q < s.prof.bvLen) : bitAt (demodVector s) q = demodBit s q := by
  rw [bitAt_demodVector, decide_eq_true hq, Bool.true_and]

/-- The bit of a key pulse as a number (42_demodulator.md R121, R122). -/
theorem demodBit_toNat (hadj : s.prof.firstAdj.toNat ≤ s.prof.longThr.toNat) (q : Nat) :
    (demodBit s q).toNat =
      if s.prof.longThr.toNat < (s.rawAt (2 * q + 1)).toNat + (if q = 0 then s.prof.firstAdj.toNat else 0) then 1
      else 0 := by
  rw [← if_congr (demodBit_eq_true hadj q) rfl rfl]
  exact Bool.cond_eq_ite ..

/-- Settles O31: BITS and BITS_LEN end as DEMOD leaves them, and FIELDn holds in full the sum of the bits of its slice
by weight, each the class of its key pulse. -/
theorem decodeReadsWholeFrame : Obligations.DecodeReadsWholeFrame := by
  intro s hl hp hpass
  obtain ⟨t, ht, -, hbitsLen, hbits⟩ := demodReadsKeyPulses s hl hp hpass.1
  cases (exec_demod hl hpass.1).symm.trans ht
  refine ⟨_, exec_decode hl hpass, rfl, hbitsLen, hbits, fun n => ?_⟩
  rw [complete_field, storeMessage_field]
  calc (BitVec.ofNat 32 (fieldValue s.prof (demodVector s) n)).toNat
      = fieldValue s.prof (demodVector s) n := (BitVec.toNat_ofNat ..).trans (Nat.mod_eq_of_lt (hp.fieldValue_lt _ n))
    _ = ∑ j ∈ Finset.range (s.prof.width n),
          (bitAt (demodVector s) (s.prof.offset n + j)).toNat * 2 ^ (s.prof.width n - 1 - j) := toUint_eq_sum ..
    _ = _ := Finset.sum_congr rfl fun j hj => by
        rw [bitAt_demodVector_of_lt (hp.slice_lt_bvLen (Finset.mem_range.mp hj)), demodBit_toNat hp.adjustment]

end Sys2Proof.Machine

/-! The round trip (45_profile_and_control.md R162): under a round-trip-safe profile the demodulator reads a pair of a
built train as the message's bit, and a slice of the message's bits is the value of its field. -/

namespace Sys2Proof.Machine

variable {s : State}

/-- Within the slice of a field, the message's bits are the bits of that field's value alone, since no other slice of a
legal profile reaches there (44_builder.md R146, 45_profile_and_control.md R159). -/
theorem LegalProfile.messageBit_slice (hp : LegalProfile s.cfg s.prof) {n : FieldId} {j : Nat}
    (hj : j < s.prof.width n) :
    s.MessageBit (s.prof.offset n + j) ↔ (s.field n).toNat.testBit (s.prof.width n - 1 - j) = true := by
  constructor
  · rintro ⟨m, hlow, hhigh, hbit⟩
    have hmn : m = n := by
      by_contra hne
      have := hp.apart m n hne
      omega
    subst hmn
    rwa [Nat.add_sub_cancel_left] at hbit
  · intro hbit
    exact ⟨n, by omega, by omega, by rwa [Nat.add_sub_cancel_left]⟩

/-- A long key pulse is LONG and a short one is not, in the first pair too (45_profile_and_control.md R162). -/
theorem Profile.RoundTripSafe.demodBit_iff (hsafe : s.prof.RoundTripSafe)
    (hadj : s.prof.firstAdj.toNat ≤ s.prof.longThr.toNat) {q : Nat} {one : Prop}
    (hone : one → s.rawAt (2 * q + 1) = s.prof.long) (hzero : ¬ one → s.rawAt (2 * q + 1) = s.prof.short) :
    demodBit s q = true ↔ one := by
  have hshort := hsafe.shortIsZero
  have hlong := hsafe.longIsOne
  rw [demodBit_eq_true hadj]
  by_cases h : one
  · rw [hone h]
    exact iff_of_true (by omega) h
  · rw [hzero h]
    exact iff_of_false (by split <;> omega) h

/-- A vector whose bits in the slice of a field are the message's bits there gives the field's value back, where the
value fits the width (43_extractor.md R130, 44_builder.md R146). -/
theorem LegalProfile.fieldValue_eq_field (hp : LegalProfile s.cfg s.prof) {n : FieldId} {bv : List Bool}
    (hfit : (s.field n).toNat < 2 ^ s.prof.width n)
    (hbits : ∀ j, j < s.prof.width n →
      (bitAt bv (s.prof.offset n + j) = true ↔ s.MessageBit (s.prof.offset n + j))) :
    fieldValue s.prof bv n = (s.field n).toNat := by
  apply Nat.eq_of_testBit_eq
  intro i
  rw [fieldValue, toUint_testBit]
  by_cases hi : i < s.prof.width n
  · have hj : s.prof.width n - 1 - i < s.prof.width n := by omega
    have hback : s.prof.width n - 1 - (s.prof.width n - 1 - i) = i := by omega
    rw [decide_eq_true hi, Bool.true_and, Bool.eq_iff_iff, hbits _ hj, hp.messageBit_slice hj, hback]
  · have hhigh : (s.field n).toNat < 2 ^ i := hfit.trans_le (Nat.pow_le_pow_right (by decide) (Nat.le_of_not_lt hi))
    rw [decide_eq_false hi, Bool.false_and, Nat.testBit_lt_two_pow hhigh]

/-- Settles O48: the built train passes the windows, and its vector holds the message's bits. -/
theorem buildThenDecodeRoundTrips : Obligations.BuildThenDecodeRoundTrips := by
  intro s hi hl hsafe hpresent hfit
  have hp := hi.lockedLegal hl
  obtain ⟨t, ht, -, -, hheader, hfooter, hpair, -⟩ :=
    buildPlacesMessagePulses s hl hp hi.rawSize hpresent fun _ => hfit
  cases (exec_build hl (missingField_eq_none.mpr hpresent) (overflowingField_eq_none.mpr fun _ => hfit)).symm.trans ht
  set t := complete (storeTrain (builtTrain s) s)
  have hprof : t.prof = s.prof := rfl
  have hpass : t.FramePasses := by
    rw [State.FramePasses, hprof, hheader, hfooter]
    exact ⟨rfl, hsafe.header, hsafe.footer⟩
  have hbit {q : Nat} (hq : q < s.prof.bvLen) : bitAt (demodVector t) q = true ↔ s.MessageBit q := by
    obtain ⟨hone, hzero⟩ := hpair q hq
    rw [bitAt_demodVector_of_lt (s := t) hq]
    exact Profile.RoundTripSafe.demodBit_iff (s := t) hsafe hp.adjustment (fun h => (hone h).1) fun h => (hzero h).1
  refine ⟨t, _, ht, rfl, exec_decode hl hpass, rfl, fun n => ?_⟩
  have hvalue : fieldValue s.prof (demodVector t) n = (s.field n).toNat :=
    hp.fieldValue_eq_field (hfit n) fun _ hj => hbit (hp.slice_lt_bvLen hj)
  rw [complete_field, storeMessage_field, hprof, hvalue, BitVec.ofNat_toNat, BitVec.setWidth_eq]

end Sys2Proof.Machine

/-! The profile values the host loads (45_profile_and_control.md R156): a bound rounded to the side that keeps every
integer comparison, and clamped to 32 bits, decides a duration as the bound itself does. -/

namespace Sys2Proof.Machine

/-! Rounding -/

variable (q : Ratio) (n d : Nat)

theorem Ratio.floorOf_lt : q.floorOf n < d ↔ n * q.num < d * q.den := Nat.div_lt_iff_lt_mul q.den_pos

theorem Ratio.le_floorOf : d ≤ q.floorOf n ↔ d * q.den ≤ n * q.num := Nat.le_div_iff_mul_le q.den_pos

theorem Ratio.ceilOf_le : q.ceilOf n ≤ d ↔ n * q.num ≤ d * q.den := by
  rw [Ratio.ceilOf, Nat.div_le_iff_le_mul_add_pred q.den_pos, Nat.mul_comm q.den d]
  exact Nat.add_le_add_iff_right

/-! Clamping to 32 bits -/

variable {n} {d : Word}

theorem loadValue_toNat (n : Nat) : (loadValue n).toNat = min n 0xFFFFFFFF := by
  rw [loadValue, BitVec.toNat_ofNat]
  exact Nat.mod_eq_of_lt (by omega)

/-- A clamped bound is exceeded by the durations that exceed the bound: none exceeds 0xFFFFFFFF. -/
theorem loadValue_lt : (loadValue n).toNat < d.toNat ↔ n < d.toNat := by
  have := d.isLt
  rw [loadValue_toNat]
  omega

theorem le_loadValue : d.toNat ≤ (loadValue n).toNat ↔ d.toNat ≤ n := by
  rw [← Nat.not_lt, loadValue_lt, Nat.not_lt]

/-- A lower bound within 32 bits is loaded as it is (log entry 11 on the others). -/
theorem loadValue_le (hn : n ≤ 0xFFFFFFFF) : (loadValue n).toNat ≤ d.toNat ↔ n ≤ d.toNat := by
  rw [loadValue_toNat, Nat.min_eq_left hn]

/-- A window with a lower bound within 32 bits passes the same durations loaded and as computed. -/
theorem loadedWindow_iff {window : Nat × Nat} (hlow : window.1 ≤ 0xFFFFFFFF) :
    ((loadValue window.1).toNat ≤ d.toNat ∧ d.toNat ≤ (loadValue window.2).toNat) ↔
      window.1 ≤ d.toNat ∧ d.toNat ≤ window.2 :=
  and_congr (loadValue_le hlow) le_loadValue

variable {v : Variant}

theorem Variant.profile_headerFits {form : HeaderForm} (hv : v.header = form)
    (hlow : (form.window v.baseline).1 ≤ 0xFFFFFFFF) :
    v.profile.headerFits d ↔ (form.window v.baseline).1 ≤ d.toNat ∧ d.toNat ≤ (form.window v.baseline).2 := by
  subst hv
  exact loadedWindow_iff hlow

theorem Variant.profile_footerFits {form : FooterForm} (hv : v.footer = form)
    (hlow : (form.window v.baseline).1 ≤ 0xFFFFFFFF) :
    v.profile.footerFits d ↔ (form.window v.baseline).1 ≤ d.toNat ∧ d.toNat ≤ (form.window v.baseline).2 := by
  subst hv
  exact loadedWindow_iff hlow

/-- Settles O59: the loaded threshold is the product rounded down, then clamped. -/
theorem loadedThresholdIsExact : Obligations.LoadedThresholdIsExact :=
  fun v d => loadValue_lt.trans (v.multiplier.floorOf_lt v.baseline d.toNat)

/-- Settles O60: minima are rounded up and maxima down, and each form's premise says that its minimum fits 32 bits. -/
theorem loadedWindowsAreExact : Obligations.LoadedWindowsAreExact := by
  intro v d
  refine ⟨fun low high hv hlow => ?absolute, fun below above hv hlow => ?around,
    fun f low high hv hlow => ?multiple, fun length hv hlow => ?fixed⟩
  case absolute => exact Variant.profile_headerFits hv hlow
  case around =>
    have hmin := Nat.sub_le_iff_le_add.mpr hlow
    exact (Variant.profile_headerFits hv hmin).trans (and_congr_left' Nat.sub_le_iff_le_add)
  case multiple =>
    have hmin := ((f.mul low).ceilOf_le v.baseline _).mpr hlow
    exact (Variant.profile_footerFits hv hmin).trans (and_congr (Ratio.ceilOf_le ..) (Ratio.le_floorOf ..))
  case fixed =>
    have hmin := (Ratio.ceilOf_le ⟨9, 10, by decide⟩ length _).mpr hlow
    exact (Variant.profile_footerFits hv hmin).trans (and_congr (Ratio.ceilOf_le ..) (Ratio.le_floorOf ..))

end Sys2Proof.Machine

/-! What a command word that raises writes (60_exceptions.md R174). -/

namespace Sys2Proof.Machine

variable {s : State} {i : Instr} {e : ErrorCode} {n : BitVec 2}

/-- Every check of the validator reports a StructuralError (41_validator.md R111 to R113, 60_exceptions.md R170). -/
theorem validate_eclass (h : validate s = some e) : e.eclass = 1 := by
  unfold validate at h
  split_ifs at h <;> cases h <;> rfl

/-- A command that raises leaves everything besides the result fields, but for a VALIDATE or DECODE whose validation
fails, which clears FRAME_OK (60_exceptions.md R174). -/
theorem errorState_cases (h : commandError i s = some (e, n)) :
    errorState i s = s ∨ (i = .validate ∨ i = .decode) ∧ e.eclass = 1 ∧ errorState i s = setFrameOk false s := by
  have rejected (hl : s.status.locked = true)
      (hc : lockedError s ((validate s).map fun e => (e, 0)) = some (e, n)) : e.eclass = 1 := by
    rw [lockedError_of_locked hl] at hc
    obtain ⟨_, hv, heq⟩ := Option.map_eq_some_iff.mp hc
    cases heq
    exact validate_eclass hv
  cases i with
  | validate | decode =>
    cases hl : s.status.locked with
    | true => exact .inr ⟨by simp, rejected hl h, if_pos hl⟩
    | false => exact .inl (if_neg (Bool.eq_false_iff.mp hl))
  | nop | classifyHdr | classifyFtr | classifyData | classifyData1 | demod | extract | build | lock => exact .inl rfl

/-- Settles O35: a word that decodes to no command writes the result fields only, and a command that raises writes them
over what `errorState_cases` says it leaves. -/
theorem raisingWritesNoResult : Obligations.RaisingWritesNoResult := by
  intro w s t h hok
  rcases perform_cases h with ⟨_, -, rfl⟩ | ⟨i, hi, h⟩
  · exact .inl rfl
  rcases exec_cases h with ⟨-, rfl⟩ | ⟨e, n, he, rfl⟩
  · cases hok
  rcases errorState_cases he with hkeep | ⟨hword, hclass, hclear⟩
  · rw [hkeep]
    exact .inl rfl
  · rw [hclear, eq_encode_of_decode hi]
    exact .inr ⟨hword.imp (congrArg encode) (congrArg encode), hclass, rfl⟩

end Sys2Proof.Machine

/-! Reset, the RST line and the end of a run (70_reset_and_hazards.md): every step answers a next state, what the
registers hold after reset, and what FRAME_OK and BERR say. -/

namespace Sys2Proof.Machine

variable {s : State} {e : HostEvent} {rest : List HostEvent}

/-! Every host event is answered -/

theorem perform_total (w : Word) (s : State) : ∃ t, perform w s = .next t := by
  unfold perform
  split
  · exact ⟨_, rfl⟩
  · exact exec_total _ s

theorem writeReg_total (v : Word) (s : State) (r : Reg) : ∃ t, writeReg v s r = .next t := by
  cases r with
  | cmd => exact perform_total v _
  | prof | rawLen =>
    simp only [writeReg]
    split <;> exact ⟨_, rfl⟩
  | id | status | clsIn | clsOut | bits | bitsLen | txRepeat | field | fieldPresent | raw => exact ⟨_, rfl⟩

theorem busWrite_total (a : Addr) (v : Word) (s : State) : ∃ t, busWrite a v s = .next t := by
  cases h : regAt s.cfg a with
  | none => exact ⟨_, busWrite_of_unmapped h⟩
  | some r =>
    rw [busWrite_of_mapped h]
    exact writeReg_total v s r

theorem hostEvent_total (s : State) (e : HostEvent) : ∃ t, hostEvent s e = .next t := by
  cases e with
  | read a =>
    simp only [hostEvent]
    split <;> exact ⟨_, rfl⟩
  | write a v =>
    simp only [hostEvent]
    split
    · exact ⟨_, rfl⟩
    · exact busWrite_total a v s
  | rst b => cases b <;> exact ⟨_, rfl⟩

/-- While RST is asserted, every event but one of RST itself is ignored (70_reset_and_hazards.md R190). -/
theorem hostEvent_of_rstLine (hr : s.rstLine = true) (he : ∀ b, e ≠ .rst b) :
    hostEvent s e = .next (ignoreAccess s) := by
  cases e with
  | read | write => exact if_pos hr
  | rst b => exact absurd rfl (he b)

/-! Steps, by whether an event waits -/

/-- With no host event waiting the block is idle (log entry 1). -/
theorem step_of_idle (hs : s.hostIn = []) : step s = .next s := by rw [step, hs]

/-- With one waiting, a step is that event, taken from the queue. -/
theorem step_of_event (hs : s.hostIn = e :: rest) : step s = hostEvent { s with hostIn := rest } e := by
  rw [← State.dropEvent_eq hs, step, hs]

theorem step_total (s : State) : ∃ t, step s = .next t := by
  cases hs : s.hostIn with
  | nil => exact ⟨s, step_of_idle hs⟩
  | cons e rest =>
    rw [step_of_event hs]
    exact hostEvent_total _ e

/-- Settles O7: the step of an empty queue is the idle one. -/
theorem idleBlockHoldsState : Obligations.IdleBlockHoldsState := fun _ => step_of_idle

/-- Settles O8: every command answers, so every write to CMD does, and every other host event answers at once. -/
theorem everyStepAnswersNext : Obligations.EveryStepAnswersNext := ⟨exec_total, step_total⟩

/-- Settles O10: one host event each, the RST line telling an access that is ignored. -/
theorem rstResetsAndBlocksAccesses : Obligations.RstResetsAndBlocksAccesses :=
  ⟨fun _ _ hs => step_of_event hs, fun _ _ hs => ⟨_, step_of_event hs, rfl⟩,
    fun _ _ _ hs he hr => ⟨_, (step_of_event hs).trans (hostEvent_of_rstLine hr he), rfl⟩⟩

/-! After reset -/

theorem Status.toWord_reset : Status.reset.toWord = 0 := by decide

theorem FieldSpec.toWord_reset : FieldSpec.reset.toWord = 0 := by decide

theorem Profile.read_reset (q : ProfReg) : Profile.reset.read q = 0 := by
  cases q with
  | fieldSpec n => cases n <;> exact FieldSpec.toWord_reset
  | frameLen | hdrMin | hdrMax | ftrMin | ftrMax | longThr | firstAdj | short | long | ftrPulse | repeatCount => rfl

/-- Every RAW entry is 0 after reset (70_reset_and_hazards.md R190). -/
theorem rawAt_resetWith (c : Config) (k : Nat) : (State.resetWith c).rawAt k = 0 := by
  rw [State.rawAt, State.resetWith, List.getD_eq_getElem?_getD, List.getElem?_replicate]
  split <;> rfl

theorem readReg_resetWith (c : Config) {r : Reg} (hid : r ≠ .id) : readReg (State.resetWith c) r = 0 := by
  cases r with
  | id => exact absurd rfl hid
  | status => exact Status.toWord_reset
  | prof q => exact Profile.read_reset q
  | raw k => exact rawAt_resetWith c k
  | field n => cases n <;> rfl
  | cmd | clsIn | clsOut | rawLen | bits | bitsLen | txRepeat | fieldPresent => rfl

/-- Settles O9: ID reads its constant, and each of the other registers the 0 it holds after reset. -/
theorem resetRegistersReadZero : Obligations.ResetRegistersReadZero := by
  intro c a r _
  split
  case isTrue hid =>
    subst hid
    rfl
  case isFalse hid => exact readReg_resetWith c hid

/-- Settles O44: the reference parameters are among those the spec allows. -/
theorem invariantHoldsAfterReset : Obligations.InvariantHoldsAfterReset :=
  ⟨fun _ => State.resetWith_inv, State.resetWith_inv (by decide)⟩

/-! What the flags say -/

/-- Settles O46: by the invariant the frame passes, and VALIDATE of a passing frame sets the FRAME_OK that is set. -/
theorem frameOkMeansValidatePasses : Obligations.FrameOkMeansValidatePasses := by
  intro s hi hframe
  obtain ⟨hl, hlen, hheader, hfooter⟩ := hi.frameOk hframe
  have hkept : { s.status.success with frameOk := true } = s.status.success := by
    rw [← hframe]
    rfl
  rw [validateAcceptsPassingFrame s hl hlen hheader hfooter, hkept]

/-- Settles O58: the verdict on a run looks at BERR alone. -/
theorem runWithBusErrorIsFaulted : Obligations.RunWithBusErrorIsFaulted := by
  intro s
  unfold State.Faulted endOfRun
  split
  case isTrue hberr => exact iff_of_true rfl hberr
  case isFalse hberr => exact iff_of_false nofun hberr

end Sys2Proof.Machine
